-- ==== Sys2Proof/Word.lean ====
section
/-!
DEFINITION. The word types of the block. The widths are the structural parameters of
spec/00_scope.md R7 (`TW`, `NW`, `SW`, `HWN`, `WDW`, `FQW`), which fix register widths and are
not open to variation (spec/93_implementation_defined.md section 3).
-/
namespace Sys2Proof

/-- A command word, 64 bits (R90). -/
abbrev CommandWord := BitVec 64

/-- A byte of a stored command word (R72). -/
abbrev Byte := BitVec 8

/-- `NW` = `SW` = 16: the narrow tick counter, the software overflow counter and their latches. -/
abbrev Narrow := BitVec 16

/-- `HWN` = 16: the hardware event counter (R26). -/
abbrev EventCount := BitVec 16

/-- `TW` = 32: a tick value, a period, a window start (R11). -/
abbrev Tick := BitVec 32

/-- The 5-bit exponent fields and the ExtendedEventCounter (R27, R32, R33, R41, R42). -/
abbrev Exponent := BitVec 5

/-- `WDW` = 8: the watchdog countdown, two's complement (R46). -/
abbrev Countdown := BitVec 8

/-- `FQW` = 64: the calculator's result, and the read latch `DOUT` (R52, R54). -/
abbrev Wide := BitVec 64

/-- An 8-bit register index (R70) or short operand (R90). -/
abbrev Index := BitVec 8

/-- A flag as a number: 1 when set, 0 when clear (R9). -/
def bit (b : Bool) : Nat := if b then 1 else 0

end Sys2Proof
end

