-- ==== Sys2Proof/Config.lean ====
section
/-!
DEFINITION. The implementation parameters of spec/00_scope.md R7. The ones that fix register
widths are constants; the ones a claim must hold for every value of
(spec/93_implementation_defined.md section 3) are fields of `Config`, with R7's values as the
default. `Config.Valid` is R8.
-/
namespace Sys2Proof

/-- `NW`: width of the narrow tick counter (R7, D2). -/
def nw : Nat := 16
/-- `SW`: width of the software overflow counter (R7, D2). -/
def sw : Nat := 16
/-- `TW`: width of a tick value (R7, D1). -/
def tw : Nat := 32
/-- `HWN`: hardware-native exponent width of the event counter (R7). -/
def hwn : Nat := 16
/-- `NMAX`: largest event exponent (R7). -/
def nmax : Nat := 20
/-- `NMIN_FAST`: smallest event exponent of the Fast counter (R7). -/
def nminFast : Nat := 1
/-- `WDW`: width of the watchdog countdown (R7, D9). -/
def wdw : Nat := 8
/-- `FQW`: width of the calculator's result (R7, D11). -/
def fqw : Nat := 64

/-- `PERIOD_MAX`, the sentinel "no valid measurement yet": `2^TW - 1` (R7, R34). -/
def periodMax : Tick := 0xFFFFFFFF

/-- The parameters that are not widths (R7). `HIGH` is not a field: it is `3 * LOW` exactly
(R8, spec/90_conflicts.md C6). -/
structure Config where
  /-- `CYC_PER_TICK`, clock cycles per tick; no rule depends on it (R7, R291). -/
  cycPerTick : Nat
  /-- `OVF_THRESHOLD`, the threshold of the overflow-race check (R116, R117). -/
  ovfThreshold : Nat
  /-- `LOW`, the low-target threshold in ticks (R152). -/
  low : Nat
  /-- `ESC`, the emergency-escalation threshold in ticks (R133). -/
  esc : Nat
  /-- `WD_CEILING`, the value the watchdog is reset to (R46). -/
  wdCeiling : Nat
  /-- `K`, the tick-frequency constant (R191). -/
  k : Nat
  /-- `WIDTH_SWITCH_N`, the exponent at which a two-width calculator changes width;
  informative (R196). -/
  widthSwitchN : Nat
  deriving DecidableEq, Repr

/-- R7's values. -/
def Config.default : Config :=
  { cycPerTick := 64, ovfThreshold := 32768, low := 10000, esc := 100, wdCeiling := 4,
    k := 15625, widthSwitchN := 11 }

/-- `HIGH`, the high-target threshold: three times `LOW` (R8). -/
def Config.high (c : Config) : Nat := 3 * c.low

/-- The watchdog's ceiling as the register holds it. -/
def Config.ceiling (c : Config) : Countdown := BitVec.ofNat 8 c.wdCeiling

/-- The constraints of R8 between the parameters, and the legal range of `K` (R7, D10). The
constraints that involve structural parameters alone (`TW = NW + SW`, `1 <= HWN <= NMAX <= 31`)
are facts about the constants above. -/
abbrev Config.Valid (c : Config) : Prop :=
  (0 < c.ovfThreshold ∧ c.ovfThreshold ≤ 2 ^ nw) ∧ c.esc ≤ c.low ∧ 2 * c.low < 2 ^ tw ∧
    c.wdCeiling < 2 ^ (wdw - 1) ∧ (1 ≤ c.k ∧ c.k < 2 ^ 32) ∧
    c.k * 2 ^ nmax + 2 ^ (tw - 1) < 2 ^ fqw

end Sys2Proof
end

