-- ==== Sys2Proof/Syntax.lean ====
section
/-!
DEFINITION. The commands (spec/30_encoding.md R92) and the registers an `RD` can name
(spec/20_memory.md R71). The three interrupt handlers are no commands (R96).
-/
namespace Sys2Proof

/-- The 31 registers of spec/10_state.md R20, in the order of the index map R71. -/
inductive Reg where
  | tcnt | tov | sovf | ecnt | ek | cmf | edgf | edgeIe | gie | xcnt | xlim
  | sPeriod | sRlog | sPlog | sAwait | sStart
  | fPeriod | fRlog | fPlog | fAwait | fStart
  | active | wdog
  | lOvf | lLo | nowv | snapN | snapP | fq | fqu | dout
  deriving DecidableEq, Repr

/-- A command, one constructor per row of spec/opcode_table.json. -/
inductive Instr where
  /-- `NOP` (R205). -/
  | nop
  /-- `TICK d`: `d` ticks elapse (R111). -/
  | tick (d : BitVec 32)
  /-- `EDGE`: one qualifying input transition (R131). -/
  | edge
  /-- `IRQ`: one interrupt dispatch point (R206). -/
  | irq
  /-- `CLI` (R207). -/
  | cli
  /-- `SEI` (R208). -/
  | sei
  /-- `NOWA`: tick read, step 1 (R114). -/
  | nowa
  /-- `NOWB`: tick read, step 2 (R115). -/
  | nowb
  /-- `NOWC`: tick read, step 3 (R116). -/
  | nowc
  /-- `NOW`: the whole tick read at one instant (R118). -/
  | now
  /-- `SNAP` (R176). -/
  | snap
  /-- `WDPOLL` (R174). -/
  | wdpoll
  /-- `FORCE` (R173). -/
  | force
  /-- `FREQ n, ticks` (R192). -/
  | freq (n : Exponent) (ticks : BitVec 32)
  /-- `FREQS` (R193). -/
  | freqs
  /-- `RD r` (R209). -/
  | rd (r : Reg)
  /-- `RESET` (R210). -/
  | reset
  deriving DecidableEq, Repr

/-- The four formats of a command word (R90). -/
inductive Format where
  /-- `op` only. -/
  | z
  /-- `op` and `imm`. -/
  | i
  /-- `op` and `a`. -/
  | a
  /-- `op`, `a` and `imm`. -/
  | ai
  deriving DecidableEq, Repr

/-- Why a word is illegal: the conditions of R94, by name. -/
inductive Illegal where
  /-- `op` is not in the table of R92. -/
  | unknownOpcode
  /-- `z` is not zero. -/
  | zNotZero
  /-- `a` is not zero in format Z or I. -/
  | aNotZero
  /-- `imm` is not zero in format Z or A. -/
  | immNotZero
  /-- `FREQ` with `a > 20`. -/
  | exponentTooLarge
  /-- `RD` of an index R71 does not list. -/
  | unimplementedRegister
  deriving DecidableEq, Repr

end Sys2Proof
end

