-- ==== Sys2Proof/WellFormed.lean ====
section
/-!
DEFINITION. Which commands a word can encode. The only operand with a range is the exponent of
`FREQ` (spec/30_encoding.md R93, D38); `RD` names a register, and every register is implemented.
-/
namespace Sys2Proof

/-- R93's operand checks. -/
def Instr.wellFormed : Instr → Bool
  | .freq n _ => n.toNat ≤ nmax
  | .nop | .tick _ | .edge | .irq | .cli | .sei | .nowa | .nowb | .nowc | .now | .snap | .wdpoll
  | .force | .freqs | .rd _ | .reset => true

end Sys2Proof
end

