-- ==== Sys2Proof/Decode.lean ====
section
/-!
DEFINITION. The decoder and the encoder of command words (spec/30_encoding.md R90 to R95, the
index map of spec/20_memory.md R71, the stored byte order of R72).
-/
namespace Sys2Proof

/-- `W[63:56]` (R90). -/
def opField (w : CommandWord) : BitVec 8 := w.extractLsb' 56 8

/-- `W[55:48]` (R90). -/
def aField (w : CommandWord) : BitVec 8 := w.extractLsb' 48 8

/-- `W[47:32]` (R90). -/
def zField (w : CommandWord) : BitVec 16 := w.extractLsb' 32 16

/-- `W[31:0]` (R90). -/
def immField (w : CommandWord) : BitVec 32 := w.extractLsb' 0 32

/-- The word with the given fields, `z` zero (R90). -/
def wordOf (op a : BitVec 8) (imm : BitVec 32) : CommandWord :=
  op ++ a ++ (0 : BitVec 16) ++ imm

/-- The index of a register (R71). -/
def Reg.index : Reg → Index
  | .tcnt => 0x00 | .tov => 0x01 | .sovf => 0x02 | .ecnt => 0x03 | .ek => 0x04 | .cmf => 0x05
  | .edgf => 0x06 | .edgeIe => 0x07 | .gie => 0x08 | .xcnt => 0x09 | .xlim => 0x0A
  | .sPeriod => 0x10 | .sRlog => 0x11 | .sPlog => 0x12 | .sAwait => 0x13 | .sStart => 0x14
  | .fPeriod => 0x18 | .fRlog => 0x19 | .fPlog => 0x1A | .fAwait => 0x1B | .fStart => 0x1C
  | .active => 0x20 | .wdog => 0x21
  | .lOvf => 0x28 | .lLo => 0x29 | .nowv => 0x2A | .snapN => 0x2B | .snapP => 0x2C
  | .fq => 0x2D | .fqu => 0x2E | .dout => 0x2F

/-- Every register, in index order (R71). -/
def Reg.all : List Reg :=
  [.tcnt, .tov, .sovf, .ecnt, .ek, .cmf, .edgf, .edgeIe, .gie, .xcnt, .xlim,
   .sPeriod, .sRlog, .sPlog, .sAwait, .sStart, .fPeriod, .fRlog, .fPlog, .fAwait, .fStart,
   .active, .wdog, .lOvf, .lLo, .nowv, .snapN, .snapP, .fq, .fqu, .dout]

/-- The register an index names; none for an unimplemented index (R71). -/
def Reg.ofIndex (a : Index) : Option Reg :=
  Reg.all.find? (fun r => r.index == a)

/-- The format an opcode selects; none for an opcode R92 does not list. -/
def formatOf (op : BitVec 8) : Option Format :=
  match op.toNat with
  | 0x00 | 0x02 | 0x08 | 0x10 | 0x11 | 0x18 | 0x19 | 0x1A | 0x1B | 0x20 | 0x21 | 0x22 | 0x29
  | 0x3F => some .z
  | 0x01 => some .i
  | 0x28 => some .ai
  | 0x30 => some .a
  | _ => none

/-- Does the format use the field `a`? (R90) -/
def Format.usesA : Format → Bool
  | .a | .ai => true
  | .z | .i => false

/-- Does the format use the field `imm`? (R90) -/
def Format.usesImm : Format → Bool
  | .i | .ai => true
  | .z | .a => false

/-- The first field the format does not use that is not zero (R94). -/
def unusedFieldError (f : Format) (w : CommandWord) : Option Illegal :=
  if zField w ≠ 0 then some .zNotZero
  else if f.usesA = false ∧ aField w ≠ 0 then some .aNotZero
  else if f.usesImm = false ∧ immField w ≠ 0 then some .immNotZero
  else none

/-- The command of an opcode and its operands, with R93's operand checks. -/
def commandOf (op a : BitVec 8) (imm : BitVec 32) : Except Illegal Instr :=
  match op.toNat with
  | 0x00 => .ok .nop
  | 0x01 => .ok (.tick imm)
  | 0x02 => .ok .edge
  | 0x08 => .ok .irq
  | 0x10 => .ok .cli
  | 0x11 => .ok .sei
  | 0x18 => .ok .nowa
  | 0x19 => .ok .nowb
  | 0x1A => .ok .nowc
  | 0x1B => .ok .now
  | 0x20 => .ok .snap
  | 0x21 => .ok .wdpoll
  | 0x22 => .ok .force
  | 0x28 => if a.toNat ≤ nmax then .ok (.freq (a.setWidth 5) imm) else .error .exponentTooLarge
  | 0x29 => .ok .freqs
  | 0x30 =>
    match Reg.ofIndex a with
    | some r => .ok (.rd r)
    | none => .error .unimplementedRegister
  | 0x3F => .ok .reset
  | _ => .error .unknownOpcode

/-- The command a word stands for, or why it is illegal: the opcode selects command and format,
then the unused fields are checked, then the operands (R94, R95). The order in which several reasons
of one word are named is a DESIGN CHOICE, log entry 13. -/
def decode (w : CommandWord) : Except Illegal Instr :=
  match formatOf (opField w) with
  | none => .error .unknownOpcode
  | some f =>
    match unusedFieldError f w with
    | some e => .error e
    | none => commandOf (opField w) (aField w) (immField w)

/-- The word of a command (R92, R93). -/
def encode : Instr → CommandWord
  | .nop => wordOf 0x00 0 0
  | .tick d => wordOf 0x01 0 d
  | .edge => wordOf 0x02 0 0
  | .irq => wordOf 0x08 0 0
  | .cli => wordOf 0x10 0 0
  | .sei => wordOf 0x11 0 0
  | .nowa => wordOf 0x18 0 0
  | .nowb => wordOf 0x19 0 0
  | .nowc => wordOf 0x1A 0 0
  | .now => wordOf 0x1B 0 0
  | .snap => wordOf 0x20 0 0
  | .wdpoll => wordOf 0x21 0 0
  | .force => wordOf 0x22 0 0
  | .freq n ticks => wordOf 0x28 (n.setWidth 8) ticks
  | .freqs => wordOf 0x29 0 0
  | .rd r => wordOf 0x30 r.index 0
  | .reset => wordOf 0x3F 0 0

/-- The eight bytes of a stored word, the most significant first (R72). -/
def bytesOfWord (w : CommandWord) : List Byte :=
  [w.extractLsb' 56 8, w.extractLsb' 48 8, w.extractLsb' 40 8, w.extractLsb' 32 8,
   w.extractLsb' 24 8, w.extractLsb' 16 8, w.extractLsb' 8 8, w.extractLsb' 0 8]

/-- The first stored word of a run of bytes and the bytes after it; none where fewer than eight
bytes are left (R72, R73). -/
def wordOfBytes : List Byte → Option (CommandWord × List Byte)
  | b7 :: b6 :: b5 :: b4 :: b3 :: b2 :: b1 :: b0 :: rest =>
    some (b7 ++ b6 ++ b5 ++ b4 ++ b3 ++ b2 ++ b1 ++ b0, rest)
  | _ => none

/-- The first command of a run of stored bytes, or why its word is illegal, and the bytes after
it; none where the bytes hold no whole word. -/
def decodeBytes (bs : List Byte) : Option (Except Illegal Instr × List Byte) :=
  match wordOfBytes bs with
  | some (w, rest) => some (decode w, rest)
  | none => none

/-- The stored bytes of a command. -/
def encodeBytes (i : Instr) : List Byte := bytesOfWord (encode i)

/-- The 64-bit word whose low `nbits` bits are `w`'s and whose other bits are zero. -/
def wordOfTableBits (nbits w : Nat) : CommandWord := BitVec.ofNat 64 (w % 2 ^ nbits)

/-- The command the decoder reads from an opcode-table word: stored as R72 says, then decoded
(DEDUCED, log entry 8). -/
def decodeTableWord (nbits w : Nat) : Option Instr :=
  match decodeBytes (bytesOfWord (wordOfTableBits nbits w)) with
  | some (.ok i, _) => some i
  | _ => none

end Sys2Proof
end

