-- ==== Sys2Proof/Machine/State.lean ====
section
/-!
DEFINITION. The state of the block: the 31 registers of spec/10_state.md R20, as plain data, and
three fields that are the model's own (the command stream, the position in it, the parameters);
the reasons a step can stop; the state after reset (R57).
-/
namespace Sys2Proof.Machine

/-- The values of `ACTIVE`: 0 is Slow, 1 is Fast (R45). -/
inductive Mode where
  | slow
  | fast
  deriving DecidableEq, Repr

/-- The content of a register hardwired to 0 (R36, R37): it has one value, so it reads as zero in
every state and discards every write. DEDUCED, log entry 7. -/
inductive HardwiredZero where
  | zero
  deriving DecidableEq, Repr

/-- The three interrupt sources, highest priority first (R240). -/
inductive IntSource where
  /-- Rank 1, edge-detect (slow-mode): flag `EDGF`, handler `ISR_EDGE`. -/
  | edgeDetect
  /-- Rank 2, compare-match (fast-mode): flag `CMF`, handler `ISR_CMP`. -/
  | compareMatch
  /-- Rank 3, clock-overflow: flag `TOV`, handler `ISR_OVF`. -/
  | clockOverflow
  deriving DecidableEq, Repr

/-- The state of the block. -/
@[ext]
structure State where
  /-- `TCNT`, the narrow hardware tick counter (R23). -/
  tcnt : Narrow
  /-- `TOV`, overflow pending (R24). -/
  tov : Bool
  /-- `SOVF`, the software overflow counter (R25). -/
  sovf : Narrow
  /-- `ECNT`, the hardware event counter (R26). -/
  ecnt : EventCount
  /-- `EK`, the hardware subdivision limit as an exponent (R27). -/
  ek : Exponent
  /-- `CMF`, compare-match pending (R28). -/
  cmf : Bool
  /-- `EDGF`, edge interrupt pending (R29). -/
  edgf : Bool
  /-- `EDGE_IE`, edge interrupt enable (R30). -/
  edgeIe : Bool
  /-- `GIE`, global interrupt enable; clear means "interrupts globally suppressed" (R31). -/
  gie : Bool
  /-- `XCNT`, the ExtendedEventCounter's count (R32). -/
  xcnt : Exponent
  /-- `XLIM`, the ExtendedEventCounter's limit (R33). -/
  xlim : Exponent
  /-- `S_PERIOD` (R35). -/
  sPeriod : Tick
  /-- `S_RLOG`, hardwired 0 (R36). -/
  sRlog : HardwiredZero
  /-- `S_PLOG`, hardwired 0 (R37). -/
  sPlog : HardwiredZero
  /-- `S_AWAIT` (R38). -/
  sAwait : Bool
  /-- `S_START` (R39). -/
  sStart : Tick
  /-- `F_PERIOD` (R40). -/
  fPeriod : Tick
  /-- `F_RLOG` (R41). -/
  fRlog : Exponent
  /-- `F_PLOG` (R42). -/
  fPlog : Exponent
  /-- `F_AWAIT` (R43). -/
  fAwait : Bool
  /-- `F_START` (R44). -/
  fStart : Tick
  /-- `ACTIVE` (R45). -/
  active : Mode
  /-- `WDOG`, signed (R46). -/
  wdog : Countdown
  /-- `L_OVF`, the copy of `SOVF` taken by `NOWA` and `NOW` (R47). -/
  lOvf : Narrow
  /-- `L_LO`, the copy of `TCNT` taken by `NOWB` and `NOW` (R48). -/
  lLo : Narrow
  /-- `NOWV`, the tick value of `NOWC` and `NOW` (R49). -/
  nowv : Tick
  /-- `SNAP_N` (R50). -/
  snapN : Exponent
  /-- `SNAP_P` (R51). -/
  snapP : Tick
  /-- `FQ`, the calculator's result (R52). -/
  fq : Wide
  /-- `FQU`, the "undefined" case (R53). -/
  fqu : Bool
  /-- `DOUT`, the value of the last `RD` (R54). -/
  dout : Wide
  /-- The model's own: the command stream, given from outside (R91). No command changes it.
  DESIGN CHOICE, log entry 1. -/
  stream : List CommandWord
  /-- The model's own: the position in the stream, "an index kept by the model" (R21).
  DESIGN CHOICE, log entry 1. -/
  pos : Nat
  /-- The model's own: the parameters (R7). No command changes them. DESIGN CHOICE, log
  entry 3. -/
  cfg : Config
  deriving DecidableEq, Repr

/-- The reasons a command faults. -/
inductive Fault where
  /-- `FLT2`, unprotected access (R252): `NOWA`, `NOWB`, `NOWC`, `NOW`, `SNAP`, `WDPOLL` or
  `FORCE` with `GIE = 1`. Raised by those seven meanings, with no state change. Safe: the spec
  gives the command no effect there and says that a faulted run satisfies no property. -/
  | flt2UnprotectedAccess
  deriving DecidableEq, Repr

/-- The reasons a step is refused. -/
inductive Refusal where
  /-- No meaning written for the command. Raised by an arm of `exec` only; no arm raises it now.
  Safe. -/
  | notModelled (mnemonic : String)
  /-- `FLT1`, illegal command word (R94, R252): the word is not executed and changes nothing.
  Raised by `step`. Safe: the spec gives the word "no other meaning". -/
  | flt1IllegalCommand (why : Illegal)
  /-- The stream holds no further word: "a run ends when the last word has been executed" (R91).
  Raised by `step`. Safe: there is no command to run. DESIGN CHOICE, log entry 5. -/
  | endOfStream
  deriving DecidableEq, Repr

/-- The registers at their reset values (R57), with given parameters, stream and position. -/
def State.resetWith (cfg : Config) (stream : List CommandWord) (pos : Nat) : State :=
  { tcnt := 0, tov := false, sovf := 0
    ecnt := 0, ek := 1, cmf := false, edgf := false, edgeIe := true, gie := false
    xcnt := 0, xlim := 1
    sPeriod := periodMax, sRlog := .zero, sPlog := .zero, sAwait := true, sStart := 0
    fPeriod := periodMax, fRlog := 1, fPlog := 1, fAwait := true, fStart := 0
    active := .slow, wdog := cfg.ceiling
    lOvf := 0, lLo := 0, nowv := 0, snapN := 0, snapP := 0, fq := 0, fqu := false, dout := 0
    stream := stream, pos := pos, cfg := cfg }

/-- The machine right after reset (R57, R265), with the default parameters of R7 and no command
stream loaded (DESIGN CHOICE, log entries 1 to 3). -/
def State.reset : State := State.resetWith Config.default [] 0

end Sys2Proof.Machine
end

