-- ==== Sys2Proof/Machine/Flags.lean ====
section
/-!
DEFINITION. Every flag computation the spec gives (spec/10_state.md R55), each a function of the
values it is computed from.
-/
namespace Sys2Proof.Machine

/-- Does `TCNT` wrap to 0 at least once when `d` ticks elapse? (R111, closed form) -/
def tickWraps (tcnt : Narrow) (d : BitVec 32) : Bool :=
  1 ≤ (tcnt.toNat + d.toNat) / 2 ^ nw

/-- `TOV` after `d` ticks: set by a wrap, never cleared (R111). -/
def tovAfterTicks (tov : Bool) (tcnt : Narrow) (d : BitVec 32) : Bool :=
  tov || tickWraps tcnt d

/-- The test of the overflow-race check: the flag is set and the hardware count is below the
threshold (R116, R117, R122). -/
def overflowOccurred (thr : Nat) (tov : Bool) (lo : Narrow) : Bool :=
  tov && lo.toNat < thr

/-- The correction `c` that the check adds to the returned overflow count (R116, R117). -/
def overflowCorrection (thr : Nat) (tov : Bool) (lo : Narrow) : Narrow :=
  if overflowOccurred thr tov lo then 1 else 0

/-- A compare-match: with this event, `2^EK` events are counted; the comparison is
greater-or-equal (R131, D12). -/
def compareMatch (ecnt : EventCount) (ek : Exponent) : Bool :=
  2 ^ ek.toNat ≤ ecnt.toNat + 1

/-- `EDGF` after an event: set while `EDGE_IE = 1`, never cleared by the event (R29, R131). -/
def edgfAfterEdge (edgf edgeIe : Bool) : Bool := edgf || edgeIe

/-- The countdown is negative (R174). -/
def countdownNegative (w : Countdown) : Bool := w.toInt < 0

/-- `FQU`: the calculator's "undefined" case (R53, R191). -/
def undefinedMeasurement (ticks : Nat) : Bool := ticks = 0

end Sys2Proof.Machine
end

