-- ==== Sys2Proof/Machine/Operands.lean ====
section
/-!
DEFINITION. The operand forms: the value an `RD` reads from each register (spec/20_memory.md R71,
R73; spec/45_host_control.md R209), the number a tick-count, exponent or ticks operand stands for
(spec/30_encoding.md R93: unsigned, used as it stands).
-/
namespace Sys2Proof.Machine

/-- A flag as a 64-bit value. -/
def flagValue (b : Bool) : Wide := BitVec.ofNat 64 (bit b)

/-- `ACTIVE` as a 64-bit value: 0 = Slow, 1 = Fast (R45). -/
def modeValue : Mode → Wide
  | .slow => 0
  | .fast => 1

/-- A hardwired register reads as 0 (R36, R37). -/
def hardwiredValue : HardwiredZero → Exponent
  | .zero => 0

/-- A write to a hardwired register is discarded (R36, R37). -/
def hardwiredWrite (_ : HardwiredZero) (_ : Exponent) : HardwiredZero := .zero

/-- `zext_64(reg[r])` (R209): the whole register, zero-extended. -/
def readReg (r : Reg) (s : State) : Wide :=
  match r with
  | .tcnt => s.tcnt.setWidth 64
  | .tov => flagValue s.tov
  | .sovf => s.sovf.setWidth 64
  | .ecnt => s.ecnt.setWidth 64
  | .ek => s.ek.setWidth 64
  | .cmf => flagValue s.cmf
  | .edgf => flagValue s.edgf
  | .edgeIe => flagValue s.edgeIe
  | .gie => flagValue s.gie
  | .xcnt => s.xcnt.setWidth 64
  | .xlim => s.xlim.setWidth 64
  | .sPeriod => s.sPeriod.setWidth 64
  | .sRlog => (hardwiredValue s.sRlog).setWidth 64
  | .sPlog => (hardwiredValue s.sPlog).setWidth 64
  | .sAwait => flagValue s.sAwait
  | .sStart => s.sStart.setWidth 64
  | .fPeriod => s.fPeriod.setWidth 64
  | .fRlog => s.fRlog.setWidth 64
  | .fPlog => s.fPlog.setWidth 64
  | .fAwait => flagValue s.fAwait
  | .fStart => s.fStart.setWidth 64
  | .active => modeValue s.active
  | .wdog => s.wdog.setWidth 64
  | .lOvf => s.lOvf.setWidth 64
  | .lLo => s.lLo.setWidth 64
  | .nowv => s.nowv.setWidth 64
  | .snapN => s.snapN.setWidth 64
  | .snapP => s.snapP.setWidth 64
  | .fq => s.fq
  | .fqu => flagValue s.fqu
  | .dout => s.dout

/-- The exponent operand of `FREQ` as a number (R93). -/
def exponentOperand (n : Exponent) : Nat := n.toNat

/-- The ticks operand of `FREQ` as a number (R93). -/
def ticksOperand (ticks : BitVec 32) : Nat := ticks.toNat

end Sys2Proof.Machine
end

