-- ==== Sys2Proof/Machine/Ops.lean ====
section
/-!
DEFINITION. The shared operations over registers: the guard of the seven commands that need a
critical section, the tick read, the hardware counters, `PROGRAM(e)`, the mode switches,
`FORCE_SLOW()`, taking an interrupt and returning from it, and fetching the next command word.
-/
namespace Sys2Proof.Machine

/-- The outcome of a command. -/
abbrev Result := Host.Outcome State Fault Refusal

/-- `if GIE = 1 then raise Fault(FLT2)`: the commands of R211 take effect only while interrupts
are globally suppressed (R252). `t` is the state they leave. -/
def whenSuppressed (s t : State) : Result :=
  if s.gie then .fault .flt2UnprotectedAccess else .next t

/-! ### The tick clock -/

/-- `{ (ovf + c) mod 2^SW , lo }`: the tick value from an overflow count, a hardware count and the
pending flag (R72, R116, R117). -/
def tickValue (thr : Nat) (ovf lo : Narrow) (tov : Bool) : Tick :=
  (ovf + overflowCorrection thr tov lo) ++ lo

/-- `now()` (R117): the read algorithm at one instant. It writes nothing. -/
def nowTick (s : State) : Tick :=
  tickValue s.cfg.ovfThreshold s.sovf s.tcnt s.tov

/-- The ticks from a window's start to now, modulo `2^TW` (R11). -/
def elapsedTicks (now start : Tick) : Tick := now - start

/-- `d` ticks elapse: the closed form of R111. -/
def advanceTicks (d : BitVec 32) (s : State) : State :=
  { s with
    tcnt := BitVec.ofNat 16 (s.tcnt.toNat + d.toNat)
    tov := tovAfterTicks s.tov s.tcnt d }

/-- One round of R111's pseudocode: one tick elapses. `advanceTicks d` is `d` of these. -/
def advanceOneTick (s : State) : State :=
  { s with
    tcnt := s.tcnt + 1
    tov := if s.tcnt + 1 = 0 then true else s.tov }

/-! ### Event hardware -/

/-- One event at the hardware event counter (R131): a compare-match clears the count and sets
`CMF`, otherwise the count goes up by one. -/
def countEvent (s : State) : State :=
  if compareMatch s.ecnt s.ek then { s with ecnt := 0, cmf := true }
  else { s with ecnt := s.ecnt + 1 }

/-- A write of `EDGE_IE`: it also clears `EDGF` (R29, R30). -/
def writeEdgeIe (b : Bool) (s : State) : State :=
  { s with edgeIe := b, edgf := false }

/-- The hardware part of an exponent, `min(e, HWN)` (R147). -/
def hardwareLimit (e : Nat) : Exponent := BitVec.ofNat 5 (min e hwn)

/-- The software part of an exponent, `2^max(e - HWN, 0)` (R147). Above exponent 20 it does not fit:
DEDUCED, log entry 6. -/
def softwareLimit (e : Nat) : Exponent := BitVec.ofNat 5 (2 ^ (e - hwn))

/-- `PROGRAM(e)` (R147). `ECNT` and `CMF` are not changed (R146). -/
def program (e : Nat) (s : State) : State :=
  { s with ek := hardwareLimit e, xlim := softwareLimit e, xcnt := 0 }

/-- A write of `F_PLOG`, always paired with `PROGRAM` of the same value (R42, R147). -/
def setFastExponent (e : Nat) (s : State) : State :=
  program e { s with fPlog := BitVec.ofNat 5 e }

/-! ### Mode switches (R171, R177) -/

/-- Fast becomes active: the edge interrupt is disabled. -/
def makeFastActive (s : State) : State :=
  writeEdgeIe false { s with active := .fast }

/-- Slow becomes active: the edge interrupt is enabled. -/
def makeSlowActive (s : State) : State :=
  writeEdgeIe true { s with active := .slow }

/-- `FORCE_SLOW()` (R172): Slow to its reset values, Fast to exponent 1, Slow active. -/
def forceSlow (s : State) : State :=
  makeSlowActive <| setFastExponent 1
    { s with
      sPeriod := periodMax
      sRlog := hardwiredWrite s.sRlog 0
      sAwait := true
      sStart := 0 }

/-! ### Watchdog -/

/-- The countdown's decrement: signed, saturating at `-2^(WDW-1)` (R14, R174). -/
def decrementCountdown (w : Countdown) : Countdown :=
  BitVec.ofInt 8 (max (w.toInt - 1) (-2 ^ (wdw - 1)))

/-- The countdown back at its ceiling (R150, R175). -/
def reloadCountdown (s : State) : State := { s with wdog := s.cfg.ceiling }

/-! ### Taking an interrupt, and returning from one -/

/-- The source a dispatch point serves: the pending and enabled one of highest priority, none
while interrupts are suppressed (R206, R242, R243). -/
def selectInterrupt (s : State) : Option IntSource :=
  if s.gie = false then none
  else if s.edgf && s.edgeIe then some .edgeDetect
  else if s.cmf then some .compareMatch
  else if s.tov then some .clockOverflow
  else none

/-- Entry (R244): the pending bit of the selected source is cleared. Nothing is saved: the block
has no pc, status, cause or stack. -/
def enterInterrupt (src : IntSource) (s : State) : State :=
  match src with
  | .edgeDetect => { s with edgf := false }
  | .compareMatch => { s with cmf := false }
  | .clockOverflow => { s with tov := false }

/-- Return (R246): nothing is restored; interrupts are enabled after the handler as before it. -/
def leaveInterrupt (s : State) : State := s

/-- One handler run: entry, body, return, as one atomic step (R245; DEDUCED, log entry
10). -/
def takeInterrupt (src : IntSource) (body : State → State) (s : State) : State :=
  leaveInterrupt (body (enterInterrupt src s))

/-! ### The command stream (R91; the model's own) -/

/-- The next command word; none at the end of the stream. -/
def fetchWord (s : State) : Option CommandWord := s.stream[s.pos]?

/-- The position advances by one per command, never otherwise (R21). -/
def advancePos (s : State) : State := { s with pos := s.pos + 1 }

/-- The stream with `w` at position `pos`; positions the stream does not reach yet are filled
with `NOP` words. -/
def placeWord (stream : List CommandWord) (pos : Nat) (w : CommandWord) : List CommandWord :=
  stream.take pos ++ List.replicate (pos - stream.length) (encode .nop) ++
    w :: stream.drop (pos + 1)

end Sys2Proof.Machine
end

