-- ==== Sys2Proof/Machine/Arbiter.lean ====
section
/-!
DEFINITION. The Mode Arbitrator and Watchdog (spec/43_mode_arbiter.md): `FORCE`, `WDPOLL`, `SNAP`.
-/
namespace Sys2Proof.Machine

/-- `FORCE` (R173). -/
def execForce (s : State) : Result := whenSuppressed s (forceSlow s)

/-- The watchdog step (R174): decrement, then the forced transition if the countdown is negative
while Fast is active. -/
def watchdogStep (s : State) : State :=
  let polled := { s with wdog := decrementCountdown s.wdog }
  if countdownNegative polled.wdog && s.active = .fast then forceSlow polled else polled

/-- `WDPOLL` (R174). -/
def execWdpoll (s : State) : Result := whenSuppressed s (watchdogStep s)

/-- The copy `SNAP` takes of the active counter (R176). -/
def snapshot (s : State) : State :=
  match s.active with
  | .slow => { s with snapN := hardwiredValue s.sRlog, snapP := s.sPeriod }
  | .fast => { s with snapN := s.fRlog, snapP := s.fPeriod }

/-- `SNAP` (R176). -/
def execSnap (s : State) : Result := whenSuppressed s (snapshot s)

end Sys2Proof.Machine
end

