-- ==== Sys2Proof/Machine/Calculator.lean ====
section
/-!
DEFINITION. The Frequency Calculator (spec/44_frequency_calculator.md): `FREQ`, `FREQS`.
-/
namespace Sys2Proof.Machine

/-- `freq_dHz(n, ticks)` (R191), exact on unbounded numbers: `K * 2^n / ticks` rounded half up; 0
for `ticks = 0`, where no division happens. -/
def freqDHz (k n ticks : Nat) : Nat :=
  if ticks = 0 then 0 else (k * 2 ^ n + ticks / 2) / ticks

/-- The calculator's two result registers for operands `n`, `ticks` (R191, R192). -/
def calculate (n ticks : Nat) (s : State) : State :=
  { s with fq := BitVec.ofNat 64 (freqDHz s.cfg.k n ticks), fqu := undefinedMeasurement ticks }

/-- `FREQ n, ticks` (R192). -/
def execFreq (n : Exponent) (ticks : BitVec 32) (s : State) : Result :=
  .next (calculate (exponentOperand n) (ticksOperand ticks) s)

/-- `FREQS` (R193): the calculator on the snapshot. -/
def execFreqs (s : State) : Result :=
  .next (calculate s.snapN.toNat s.snapP.toNat s)

/-- The 32-bit evaluation a two-width implementation uses on its narrow path (R196). No command
uses it. -/
def freqDHzNarrow (k n ticks : Nat) : Nat :=
  if ticks = 0 then 0
  else (BitVec.ofNat 32 (k * 2 ^ n) + BitVec.ofNat 32 (ticks / 2)).toNat / ticks

/-- A two-width calculator that changes width at exponent `WIDTH_SWITCH_N` (R196). No command uses
it. -/
def freqDHzTwoWidth (c : Config) (n ticks : Nat) : Nat :=
  if n < c.widthSwitchN then freqDHzNarrow c.k n ticks else freqDHz c.k n ticks

end Sys2Proof.Machine
end

