-- ==== Sys2Proof/Machine/FastCounter.lean ====
section
/-!
DEFINITION. The Fast-Mode Counter (spec/42_fast_counter.md): the adaptation of the exponent and
the handler `ISR_CMP`.
-/
namespace Sys2Proof.Machine

/-- The up-loop of R149's step 5: while `p < LOW` and `e < NMAX`, `e` goes up by one and `p`
doubles. `room` is `NMAX - e`. The result is (exponent, tracked period). -/
def raiseExponent (low : Nat) : (room e p : Nat) → Nat × Nat
  | 0, e, p => (e, p)
  | room + 1, e, p => if p < low then raiseExponent low room (e + 1) (2 * p) else (e, p)

/-- The down-loop of R149's step 5: while `p > HIGH` and `e > 1`, `e` goes down by one and `p` is
halved, rounding down (R13). The result is (exponent, tracked period). -/
def lowerExponent (high : Nat) : (e p : Nat) → Nat × Nat
  | 0, p => (0, p)
  | 1, p => (1, p)
  | e + 2, p => if high < p then lowerExponent high (e + 1) (p / 2) else (e + 2, p)

/-- Branch A of the adaptation is taken: too short, and the exponent can go up (R152). -/
def takesBranchA (c : Config) (e p : Nat) : Bool := p < c.low && e < nmax

/-- The exponent and the tracked period after step 5 (R149, R152). -/
def adaptExponent (c : Config) (e p : Nat) : Nat × Nat :=
  if takesBranchA c e p then raiseExponent c.low (nmax - e) e p else lowerExponent c.high e p

/-- The writes of step 5: the new exponent is programmed, and branch A promotes Fast if Slow was
active (R149, R152). -/
def adaptStep (e p : Nat) (s : State) : State :=
  let adapted := setFastExponent (adaptExponent s.cfg e p).1 s
  if takesBranchA s.cfg e p && s.active = .slow then makeFastActive adapted else adapted

/-- De-escalation at tick `t` with tracked period `p` (R149 step 6, R153). -/
def deescalate (t : Tick) (p : Nat) (s : State) : State :=
  makeSlowActive { s with sStart := t, sPeriod := BitVec.ofNat 32 (p / 2), sAwait := true }

/-- Step 6 (R149, R153): the mode transition check, with the exponent and the tracked period that
step 5 left. -/
def modeCheck (t : Tick) (e p : Nat) (s : State) : State :=
  if s.active = .fast ∧ s.cfg.high < p ∧ e = 1 then deescalate t p s
  else if s.active = .slow ∧ s.sPeriod.toNat < s.cfg.low then makeFastActive s
  else s

/-- Step 4 (R149, R151): the window ending at `t` is stored, with the exponent it was counted
with. -/
def closeFastWindow (t : Tick) (s : State) : State :=
  { s with fPeriod := elapsedTicks t s.fStart, fRlog := s.fPlog, fStart := t }

/-- Steps 4 to 6 of a firing run that has a period (R149). -/
def fireWithPeriod (t : Tick) (s : State) : State :=
  let p := (elapsedTicks t s.fStart).toNat
  let e := s.fPlog.toNat
  let final := adaptExponent s.cfg e p
  modeCheck t final.1 final.2 (adaptStep e p (closeFastWindow t s))

/-- Steps 2 to 6: a firing run. The first of an epoch only starts a window (R149, R151). -/
def fire (s : State) : State :=
  if s.fAwait then { s with fStart := nowTick s, fAwait := false }
  else fireWithPeriod (nowTick s) s

/-- The body of `ISR_CMP` (R149): every run reloads the watchdog and counts one compare-match; the
run fires when the ExtendedEventCounter reaches its limit (R148, R150). A count of 31 outside R58 wraps: DEDUCED,
log entry 6. -/
def isrCmp (s : State) : State :=
  let counted := { reloadCountdown s with xcnt := s.xcnt + 1 }
  if counted.xcnt < counted.xlim then counted else fire { counted with xcnt := 0 }

end Sys2Proof.Machine
end

