-- ==== Sys2Proof/Machine/SlowCounter.lean ====
section
/-!
DEFINITION. The Slow-Mode Counter (spec/41_slow_counter.md): `EDGE` and the handler `ISR_EDGE`.
-/
namespace Sys2Proof.Machine

/-- `EDGE` (R131): one event for both counters. -/
def execEdge (s : State) : Result :=
  .next { countEvent s with edgf := edgfAfterEdge s.edgf s.edgeIe }

/-- Step 5 of `ISR_EDGE` (R133): the emergency escalation at tick `t`. `CMF`, `WDOG`, `F_PERIOD`
and `F_RLOG` are left alone (D29). -/
def escalate (t : Tick) (s : State) : State :=
  makeFastActive { setFastExponent 1 { s with fAwait := true, fStart := t } with ecnt := 0 }

/-- Steps 3 to 5 of `ISR_EDGE`: the period of the window ending at `t` is stored, and a period
below `ESC` escalates (R133). -/
def closeSlowWindow (t : Tick) (s : State) : State :=
  let period := elapsedTicks t s.sStart
  let stored := { s with sPeriod := period, sStart := t, sRlog := hardwiredWrite s.sRlog 0 }
  if period.toNat < s.cfg.esc then escalate t stored else stored

/-- The body of `ISR_EDGE` (R133): the first edge of an epoch only starts a window. -/
def isrEdge (s : State) : State :=
  if s.sAwait then { s with sStart := nowTick s, sAwait := false }
  else closeSlowWindow (nowTick s) s

end Sys2Proof.Machine
end

