-- ==== Sys2Proof/Machine/TickClock.lean ====
section
/-!
DEFINITION. The Tick Clock (spec/40_tick_clock.md): `TICK`, `NOWA`, `NOWB`, `NOWC`, `NOW`, and the
handler `ISR_OVF`.
-/
namespace Sys2Proof.Machine

/-- `TICK d` (R111). -/
def execTick (d : BitVec 32) (s : State) : Result := .next (advanceTicks d s)

/-- `NOWA` (R114): the first read, of the software overflow count. -/
def execNowa (s : State) : Result := whenSuppressed s { s with lOvf := s.sovf }

/-- `NOWB` (R115): the second read, of the hardware count. -/
def execNowb (s : State) : Result := whenSuppressed s { s with lLo := s.tcnt }

/-- `NOWC` (R116): the third read, with the latched hardware count and the present `TOV`. -/
def execNowc (s : State) : Result :=
  whenSuppressed s { s with nowv := tickValue s.cfg.ovfThreshold s.lOvf s.lLo s.tov }

/-- `NOW` (R118): the whole read at one instant. -/
def execNow (s : State) : Result :=
  whenSuppressed s { s with lOvf := s.sovf, lLo := s.tcnt, nowv := nowTick s }

/-- The body of `ISR_OVF` (R113). -/
def isrOvf (s : State) : State := { s with sovf := s.sovf + 1 }

end Sys2Proof.Machine
end

