-- ==== Sys2Proof/Machine/HostControl.lean ====
section
/-!
DEFINITION. Dispatch and host control (spec/45_host_control.md): `NOP`, `IRQ`, `CLI`, `SEI`, `RD`,
`RESET`.
-/
namespace Sys2Proof.Machine

/-- `NOP` (R205). -/
def execNop (s : State) : Result := .next s

/-- The fixed-function body of a source's handler (R243). -/
def handlerBody : IntSource → State → State
  | .edgeDetect => isrEdge
  | .compareMatch => isrCmp
  | .clockOverflow => isrOvf

/-- `IRQ` (R206): the pending and enabled handler of highest priority runs, if there is one. -/
def execIrq (s : State) : Result :=
  match selectInterrupt s with
  | some src => .next (takeInterrupt src (handlerBody src) s)
  | none => .next s

/-- `CLI` (R207). -/
def execCli (s : State) : Result := .next { s with gie := false }

/-- `SEI` (R208). It runs no handler by itself. -/
def execSei (s : State) : Result := .next { s with gie := true }

/-- `RD r` (R209). -/
def execRd (r : Reg) (s : State) : Result := .next { s with dout := readReg r s }

/-- `RESET` (R210): every register to its reset value. The stream, the position and the parameters
are no registers and stay (DESIGN CHOICE, log entry 12). -/
def execReset (s : State) : Result := .next (State.resetWith s.cfg s.stream s.pos)

end Sys2Proof.Machine
end

