-- ==== Sys2Proof/Machine/Dispatch.lean ====
section
/-!
DEFINITION. One arm per command.
-/
namespace Sys2Proof.Machine

def exec (i : Instr) (s : State) : Host.Outcome State Fault Refusal :=
  match i with
  | .nop => Sys2Proof.Machine.execNop s
  | .tick d => Sys2Proof.Machine.execTick d s
  | .edge => Sys2Proof.Machine.execEdge s
  | .irq => Sys2Proof.Machine.execIrq s
  | .cli => Sys2Proof.Machine.execCli s
  | .sei => Sys2Proof.Machine.execSei s
  | .nowa => Sys2Proof.Machine.execNowa s
  | .nowb => Sys2Proof.Machine.execNowb s
  | .nowc => Sys2Proof.Machine.execNowc s
  | .now => Sys2Proof.Machine.execNow s
  | .snap => Sys2Proof.Machine.execSnap s
  | .wdpoll => Sys2Proof.Machine.execWdpoll s
  | .force => Sys2Proof.Machine.execForce s
  | .freq n ticks => Sys2Proof.Machine.execFreq n ticks s
  | .freqs => Sys2Proof.Machine.execFreqs s
  | .rd r => Sys2Proof.Machine.execRd r s
  | .reset => Sys2Proof.Machine.execReset s

end Sys2Proof.Machine
end

