-- ==== Sys2Proof/Machine/Step.lean ====
section
/-!
DEFINITION. One step: the next word of the stream is decoded and its command executed
(spec/30_encoding.md R91).
-/
namespace Sys2Proof.Machine

/-- One command of the stream, to completion. An illegal word is refused with no state change
(`FLT1`, R94, R252); at the end of the stream there is no command to run (R91). -/
def step (s : State) : Host.Outcome State Fault Refusal :=
  match fetchWord s with
  | none => .refused .endOfStream
  | some w =>
    match decode w with
    | .error why => .refused (.flt1IllegalCommand why)
    | .ok i =>
      match exec i s with
      | .next t => .next (advancePos t)
      | .fault r => .fault r
      | .refused r => .refused r

/-- `s` with the opcode-table word `w` of `nbits` bits as the next word of the stream:
it stands for loading a program (DESIGN CHOICE, log entry 2). -/
def State.withFetchWord (s : State) (nbits w : Nat) : State :=
  { s with stream := placeWord s.stream s.pos (wordOfTableBits nbits w) }

end Sys2Proof.Machine
end

