-- ==== Sys2Proof/Machine/Assembler.lean ====
section
/-!
DEFINITION. The text form of commands (spec/30_encoding.md R97) and the pseudo-commands (R98). A
text is a list of characters. What R97 leaves open (blanks, empty lines, capitals of hexadecimal
digits) is a DESIGN CHOICE, log entry 9.
-/
namespace Sys2Proof.Machine

/-- A line of text. -/
abbrev Text := List Char

/-- The mnemonic of a command (R92). -/
def mnemonic : Instr → Text
  | .nop => "NOP".toList
  | .tick _ => "TICK".toList
  | .edge => "EDGE".toList
  | .irq => "IRQ".toList
  | .cli => "CLI".toList
  | .sei => "SEI".toList
  | .nowa => "NOWA".toList
  | .nowb => "NOWB".toList
  | .nowc => "NOWC".toList
  | .now => "NOW".toList
  | .snap => "SNAP".toList
  | .wdpoll => "WDPOLL".toList
  | .force => "FORCE".toList
  | .freq _ _ => "FREQ".toList
  | .freqs => "FREQS".toList
  | .rd _ => "RD".toList
  | .reset => "RESET".toList

/-- The name of a register (R71). -/
def registerName : Reg → Text
  | .tcnt => "TCNT".toList
  | .tov => "TOV".toList
  | .sovf => "SOVF".toList
  | .ecnt => "ECNT".toList
  | .ek => "EK".toList
  | .cmf => "CMF".toList
  | .edgf => "EDGF".toList
  | .edgeIe => "EDGE_IE".toList
  | .gie => "GIE".toList
  | .xcnt => "XCNT".toList
  | .xlim => "XLIM".toList
  | .sPeriod => "S_PERIOD".toList
  | .sRlog => "S_RLOG".toList
  | .sPlog => "S_PLOG".toList
  | .sAwait => "S_AWAIT".toList
  | .sStart => "S_START".toList
  | .fPeriod => "F_PERIOD".toList
  | .fRlog => "F_RLOG".toList
  | .fPlog => "F_PLOG".toList
  | .fAwait => "F_AWAIT".toList
  | .fStart => "F_START".toList
  | .active => "ACTIVE".toList
  | .wdog => "WDOG".toList
  | .lOvf => "L_OVF".toList
  | .lLo => "L_LO".toList
  | .nowv => "NOWV".toList
  | .snapN => "SNAP_N".toList
  | .snapP => "SNAP_P".toList
  | .fq => "FQ".toList
  | .fqu => "FQU".toList
  | .dout => "DOUT".toList

/-- The commands without operands (R92, format Z). -/
def commandsWithoutOperands : List Instr :=
  [.nop, .edge, .irq, .cli, .sei, .nowa, .nowb, .nowc, .now, .snap, .wdpoll, .force, .freqs,
   .reset]

/-! ### Reading -/

/-- The value of a decimal digit. -/
def decimalDigit (c : Char) : Option Nat :=
  if 48 ≤ c.toNat ∧ c.toNat ≤ 57 then some (c.toNat - 48) else none

/-- The value of a hexadecimal digit, capital or small. -/
def hexDigit (c : Char) : Option Nat :=
  if 97 ≤ c.toNat ∧ c.toNat ≤ 102 then some (c.toNat - 87)
  else if 65 ≤ c.toNat ∧ c.toNat ≤ 70 then some (c.toNat - 55)
  else decimalDigit c

/-- The number a run of digits stands for, most significant first, after `acc`. -/
def digitsValue (base : Nat) (digit : Char → Option Nat) : (acc : Nat) → Text → Option Nat
  | acc, [] => some acc
  | acc, c :: rest =>
    match digit c with
    | some v => digitsValue base digit (base * acc + v) rest
    | none => none

/-- A number: hexadecimal with the prefix `0x`, else decimal; at least one digit (R97). -/
def numberOfText : Text → Option Nat
  | [] => none
  | '0' :: 'x' :: [] => none
  | '0' :: 'x' :: c :: rest => digitsValue 16 hexDigit 0 (c :: rest)
  | c :: rest => digitsValue 10 decimalDigit 0 (c :: rest)

/-- A blank or a tab. -/
def isBlank (c : Char) : Bool := c == ' ' || c == '\t'

/-- The text without the blanks at its ends. -/
def trim (t : Text) : Text := ((t.dropWhile isBlank).reverse.dropWhile isBlank).reverse

/-- The text before the comment (R97). -/
def withoutComment (t : Text) : Text := t.takeWhile (· != ';')

/-- The operands of a text, which a comma separates (R97); `current` holds the operand being read,
its last character first. -/
def splitOperands : (current : Text) → Text → List Text
  | current, [] => [trim current.reverse]
  | current, c :: rest =>
    if c = ',' then trim current.reverse :: splitOperands [] rest
    else splitOperands (c :: current) rest

/-- The operands after a mnemonic; none for a text of blanks. -/
def operandsOfText (t : Text) : List Text :=
  match trim t with
  | [] => []
  | u => splitOperands [] u

/-- A register, by its name or its index (R97). -/
def registerOfText (t : Text) : Option Reg :=
  match Reg.all.find? (fun r => registerName r == t) with
  | some r => some r
  | none =>
    match numberOfText t with
    | some n => if n < 2 ^ 8 then Reg.ofIndex (BitVec.ofNat 8 n) else none
    | none => none

/-- A 32-bit operand. -/
def wordOfText (t : Text) : Option (BitVec 32) :=
  match numberOfText t with
  | some n => if n < 2 ^ 32 then some (BitVec.ofNat 32 n) else none
  | none => none

/-- The exponent operand of `FREQ`, 0 to 20 (R93). -/
def exponentOfText (t : Text) : Option Exponent :=
  match numberOfText t with
  | some n => if n ≤ nmax then some (BitVec.ofNat 5 n) else none
  | none => none

/-- The command of a mnemonic and its operands (R97). -/
def commandOfText (name : Text) (operands : List Text) : Option Instr :=
  match operands with
  | [] => commandsWithoutOperands.find? (fun i => mnemonic i == name)
  | [x] =>
    if name = "TICK".toList then (wordOfText x).map .tick
    else if name = "RD".toList then (registerOfText x).map .rd
    else none
  | [x, y] =>
    if name = "FREQ".toList then
      match exponentOfText x, wordOfText y with
      | some n, some ticks => some (.freq n ticks)
      | _, _ => none
    else none
  | _ => none

/-! ### The pseudo-commands (R98) -/

/-- `DRAIN`: serves everything pending. -/
def drain : List Instr := [.irq, .irq, .irq]

/-- `TEDGE d`: an edge `d` ticks after the previous event, served at once. -/
def tedge (d : BitVec 32) : List Instr := .tick d :: .edge :: drain

/-- `TTICK d`: `d` ticks, then what became pending is served. -/
def ttick (d : BitVec 32) : List Instr := .tick d :: drain

/-- `POLL`: one iteration of the polling loop's dealings with the block (R220). -/
def poll : List Instr := [.cli, .snap, .wdpoll, .sei, .freqs]

/-- `CRIT x; y; ...`: a critical section. -/
def crit (body : List Instr) : List Instr := .cli :: body ++ [.sei]

/-- Any number of ticks, written as several `TICK` commands (R98). -/
def ticks (d : Nat) : List Instr :=
  List.replicate (d / (2 ^ 32 - 1)) (.tick (BitVec.ofNat 32 (2 ^ 32 - 1))) ++
    [.tick (BitVec.ofNat 32 (d % (2 ^ 32 - 1)))]

/-- The expansion of a pseudo-command on one line; `CRIT`, whose parts a semicolon separates, is
written out as its commands. -/
def pseudoOfText (name : Text) (operands : List Text) : Option (List Instr) :=
  match operands with
  | [] =>
    if name = "DRAIN".toList then some drain
    else if name = "POLL".toList then some poll
    else none
  | [x] =>
    if name = "TEDGE".toList then (wordOfText x).map tedge
    else if name = "TTICK".toList then (wordOfText x).map ttick
    else none
  | _ => none

/-! ### Lines -/

/-- The commands of one line: none where the line is no command, the empty list where the line
holds nothing but blanks and a comment (R97, R98). -/
def assembleLine (line : Text) : Option (List Instr) :=
  match trim (withoutComment line) with
  | [] => some []
  | t =>
    let name := t.takeWhile (fun c => !isBlank c)
    let operands := operandsOfText (t.dropWhile (fun c => !isBlank c))
    match commandOfText name operands with
    | some i => some [i]
    | none => pseudoOfText name operands

/-- The command words of a program text, line by line. -/
def assemble : List Text → Option (List CommandWord)
  | [] => some []
  | line :: rest =>
    match assembleLine line, assemble rest with
    | some is, some ws => some (is.map encode ++ ws)
    | _, _ => none

/-! ### Writing -/

/-- The decimal digits of a number, most significant first; `fuel` bounds their count. -/
def decimalText : (fuel n : Nat) → Text
  | 0, _ => []
  | fuel + 1, n =>
    if n < 10 then [Char.ofNat (48 + n)]
    else decimalText fuel (n / 10) ++ [Char.ofNat (48 + n % 10)]

/-- The text of a 32-bit operand, in decimal. -/
def operandText (v : BitVec 32) : Text := decimalText 10 v.toNat

/-- The line of a command (R97). -/
def lineOf : Instr → Text
  | .tick d => mnemonic (.tick d) ++ ' ' :: operandText d
  | .freq n ticks =>
    mnemonic (.freq n ticks) ++ ' ' :: (decimalText 2 n.toNat ++ ',' :: ' ' :: operandText ticks)
  | .rd r => mnemonic (.rd r) ++ ' ' :: registerName r
  | .nop => mnemonic .nop
  | .edge => mnemonic .edge
  | .irq => mnemonic .irq
  | .cli => mnemonic .cli
  | .sei => mnemonic .sei
  | .nowa => mnemonic .nowa
  | .nowb => mnemonic .nowb
  | .nowc => mnemonic .nowc
  | .now => mnemonic .now
  | .snap => mnemonic .snap
  | .wdpoll => mnemonic .wdpoll
  | .force => mnemonic .force
  | .freqs => mnemonic .freqs
  | .reset => mnemonic .reset

end Sys2Proof.Machine
end

