-- ==== Sys2Proof/Safety.lean ====
section
/-!
DEFINITION. The terms claims use: runs of command lists, the illegal words of
spec/30_encoding.md R94, the register invariants of spec/10_state.md R58, the ghost tick count and
the overflow-safe runs of spec/40_tick_clock.md R112 and R119, and who may change what.
-/
namespace Sys2Proof.Machine

/-! ### Runs -/

/-- The commands of a list, one after the other, stopping at the first that does not answer a next
state. -/
def runCommands : List Instr → State → Result
  | [], s => .next s
  | i :: rest, s =>
    match exec i s with
    | .next t => runCommands rest t
    | .fault r => .fault r
    | .refused r => .refused r

/-- The commands that need a critical section (R211). -/
def needsSuppression : Instr → Bool
  | .nowa | .nowb | .nowc | .now | .snap | .wdpoll | .force => true
  | .nop | .tick _ | .edge | .irq | .cli | .sei | .freq _ _ | .freqs | .rd _ | .reset => false

/-! ### Words -/

/-- The opcodes of R92. -/
def opcodes : List Nat :=
  [0x00, 0x01, 0x02, 0x08, 0x10, 0x11, 0x18, 0x19, 0x1A, 0x1B, 0x20, 0x21, 0x22, 0x28, 0x29,
   0x30, 0x3F]

/-- The indices of R71. -/
def implementedIndex (a : Nat) : Bool :=
  a ≤ 0x0A || (0x10 ≤ a && a ≤ 0x14) || (0x18 ≤ a && a ≤ 0x1C) || (0x20 ≤ a && a ≤ 0x21) ||
    (0x28 ≤ a && a ≤ 0x2F)

/-- R94's conditions, on a word read as a number: unknown opcode; `z` not zero; an unused `a` or
`imm` not zero; `FREQ` with `a > 20`; `RD` of an unimplemented index. -/
def IllegalWord (w : Nat) : Prop :=
  let op := w / 2 ^ 56
  let a := w / 2 ^ 48 % 2 ^ 8
  let z := w / 2 ^ 32 % 2 ^ 16
  let imm := w % 2 ^ 32
  op ∉ opcodes ∨ z ≠ 0 ∨ (op ≠ 0x28 ∧ op ≠ 0x30 ∧ a ≠ 0) ∨ (op ≠ 0x01 ∧ op ≠ 0x28 ∧ imm ≠ 0) ∨
    (op = 0x28 ∧ 20 < a) ∨ (op = 0x30 ∧ implementedIndex a = false)

/-! ### Invariants -/

/-- The invariants of R58, and the range of `SNAP_N` that R193 derives from them. -/
structure RegisterInvariants (s : State) : Prop where
  ekLow : 1 ≤ s.ek.toNat
  ekHigh : s.ek.toNat ≤ hwn
  xlimOfExponent : s.xlim.toNat = 2 ^ (s.fPlog.toNat - hwn)
  ekOfExponent : s.ek.toNat = min s.fPlog.toNat hwn
  xcntBelowLimit : s.xcnt.toNat < s.xlim.toNat
  fPlogLow : 1 ≤ s.fPlog.toNat
  fPlogHigh : s.fPlog.toNat ≤ nmax
  fRlogLow : 1 ≤ s.fRlog.toNat
  fRlogHigh : s.fRlog.toNat ≤ nmax
  slowExponentsZero : readReg .sRlog s = 0 ∧ readReg .sPlog s = 0
  edgfEnabled : s.edgf = true → s.edgeIe = true
  edgeIeExactlySlow : s.edgeIe = true ↔ s.active = .slow
  slowMeansExponentOne : s.active = .slow → s.fPlog.toNat = 1
  snapNHigh : s.snapN.toNat ≤ nmax

/-! ### True time -/

/-- The ticks a command lets pass. -/
def ticksOf : Instr → Nat
  | .tick d => d.toNat
  | .nop | .edge | .irq | .cli | .sei | .nowa | .nowb | .nowc | .now | .snap | .wdpoll | .force
  | .freq _ _ | .freqs | .rd _ | .reset => 0

/-- The ghost count of R119 after a command: the ticks since reset. -/
def timeAfter (i : Instr) (time : Nat) : Nat :=
  if i = .reset then 0 else time + ticksOf i

/-- The ghost count after a list of commands. -/
def timeAfterAll (is : List Instr) (time : Nat) : Nat :=
  is.foldl (fun T i => timeAfter i T) time

/-- `(SOVF + TOV) * 2^NW + TCNT` (R119). -/
def composedTicks (s : State) : Nat :=
  (s.sovf.toNat + bit s.tov) * 2 ^ nw + s.tcnt.toNat

/-- The registers hold the ghost count, modulo `2^TW` (R119). -/
def TracksTime (time : Nat) (s : State) : Prop :=
  composedTicks s % 2 ^ tw = time % 2 ^ tw

/-- No wrap is lost by this command (R112): a `TICK` wraps `TCNT` at most once, and not while an
overflow is pending. -/
def losesNoWrap (i : Instr) (s : State) : Bool :=
  match i with
  | .tick d => s.tcnt.toNat + d.toNat < (if s.tov then 1 else 2) * 2 ^ nw
  | .nop | .edge | .irq | .cli | .sei | .nowa | .nowb | .nowc | .now | .snap | .wdpoll | .force
  | .freq _ _ | .freqs | .rd _ | .reset => true

/-- An overflow-safe run (R112): no command of it loses a wrap. -/
def overflowSafe : List Instr → State → Bool
  | [], _ => true
  | i :: rest, s =>
    losesNoWrap i s &&
      match exec i s with
      | .next t => overflowSafe rest t
      | .fault _ => true
      | .refused _ => true

/-- The one case in which `now()` is `2^NW` too small (R119, R271): the overflow has been pending
for `OVF_THRESHOLD` ticks or more. -/
def overflowPendingTooLong (s : State) : Bool :=
  s.tov && s.cfg.ovfThreshold ≤ s.tcnt.toNat

/-! ### Who may change what -/

/-- The interrupt a dispatch point serves in this state runs this handler. -/
def runsHandler (src : IntSource) (i : Instr) (s : State) : Bool :=
  decide (i = .irq) && decide (selectInterrupt s = some src)

/-- Along a run of these commands no dispatch point runs `ISR_CMP`. -/
def withoutCompareMatchRun : List Instr → State → Bool
  | [], _ => true
  | i :: rest, s =>
    !runsHandler .compareMatch i s &&
      match exec i s with
      | .next t => withoutCompareMatchRun rest t
      | .fault _ => true
      | .refused _ => true

/-- The commands other than `WDPOLL`, `FORCE` and `RESET`: none of them polls the watchdog, and none
but a dispatch point changes the mode (R175, R177). -/
def leavesWatchdogAndMode : Instr → Bool
  | .wdpoll | .force | .reset => false
  | .nop | .tick _ | .edge | .irq | .cli | .sei | .nowa | .nowb | .nowc | .now | .snap | .freq _ _
  | .freqs | .rd _ => true

/-- Time and the input signal: the commands of the environment (R92). -/
def isEnvironment : Instr → Bool
  | .tick _ | .edge => true
  | .nop | .irq | .cli | .sei | .nowa | .nowb | .nowc | .now | .snap | .wdpoll | .force
  | .freq _ _ | .freqs | .rd _ | .reset => false

/-- The eight host latches (R22). -/
def hostLatches (s : State) :
    Narrow × Narrow × Tick × Exponent × Tick × Wide × Bool × Wide :=
  (s.lOvf, s.lLo, s.nowv, s.snapN, s.snapP, s.fq, s.fqu, s.dout)

/-- The commands that write no host latch: the environment's, the dispatcher's, and the host's
`NOP`, `CLI`, `SEI`, `WDPOLL`, `FORCE` (R22, R77). -/
def leavesLatches : Instr → Bool
  | .nop | .tick _ | .edge | .irq | .cli | .sei | .wdpoll | .force => true
  | .nowa | .nowb | .nowc | .now | .snap | .freq _ _ | .freqs | .rd _ | .reset => false

/-- The commands that neither end a critical section nor run the forced transition or a reset. -/
def leavesHandlerRegisters : Instr → Bool
  | .sei | .force | .wdpoll | .reset => false
  | .nop | .tick _ | .edge | .irq | .cli | .nowa | .nowb | .nowc | .now | .snap | .freq _ _
  | .freqs | .rd _ => true

/-- The period of Slow's window if `ISR_EDGE` closes it now (R133 step 3). -/
def slowPeriod (s : State) : Nat := (elapsedTicks (nowTick s) s.sStart).toNat

/-- The period of Fast's window if `ISR_CMP` closes it now (R149 step 4). -/
def fastPeriod (s : State) : Nat := (elapsedTicks (nowTick s) s.fStart).toNat

/-- A run of `ISR_CMP` now would be a firing one (R148, R149). -/
def fires (s : State) : Bool := !(s.xcnt + 1 < s.xlim)

/-- The registers that of all commands and handlers only handlers and `RESET` write: the software
overflow counter and four fields of the Fast record (R59). -/
def handlerOnlyRegisters (s : State) : Narrow × Tick × Exponent × Bool × Tick :=
  (s.sovf, s.fPeriod, s.fRlog, s.fAwait, s.fStart)

/-- The registers that only handlers, `FORCE`, `WDPOLL` and `RESET` write: the two records, the
active-mode indicator, the watchdog, the software overflow counter, the ExtendedEventCounter, the
hardware limit and the edge interrupt's enable (R59, R175). `ECNT`, `CMF`, `EDGF` and `TOV` are not
among them: `EDGE` and `TICK` write them too. -/
def handlerRegisters (s : State) :
    (Narrow × Exponent × Exponent × Exponent × Mode × Bool × Countdown) ×
      (Tick × HardwiredZero × HardwiredZero × Bool × Tick) ×
      (Tick × Exponent × Exponent × Bool × Tick) :=
  ((s.sovf, s.ek, s.xcnt, s.xlim, s.active, s.edgeIe, s.wdog),
    (s.sPeriod, s.sRlog, s.sPlog, s.sAwait, s.sStart),
    (s.fPeriod, s.fRlog, s.fPlog, s.fAwait, s.fStart))

end Sys2Proof.Machine
end

