-- ==== Sys2Proof/Certificates/Slice0/Obligations.lean ====
section
/-!
DEFINITION. The statements about the model. Each docstring names the rule of spec/ it formalises;
where the spec marks its own sentence as an inference ("[derived: ...]"), the docstring says so.
-/

open Sys2Proof Sys2Proof.Machine

/-! ### Words and steps -/

/-- R92, R93: the word of a well-formed command decodes to that command. -/
def Obligations.DecodeInvertsEncode : Prop :=
  ∀ i : Instr, i.wellFormed = true → decode (encode i) = .ok i

/-- R94, R95: a word that decodes at all decodes to a well-formed command, and is the one word of
that command: no bit of a word is dropped. -/
def Obligations.EncodeInvertsDecode : Prop :=
  ∀ (w : CommandWord) (i : Instr), decode w = .ok i → i.wellFormed = true ∧ encode i = w

/-- R94: the decoder rejects exactly the illegal words, and a step at an illegal word is refused
with `FLT1` and no next state. -/
def Obligations.IllegalWordsAreRefused : Prop :=
  ∀ w : CommandWord,
    (IllegalWord w.toNat ↔ ∃ why, decode w = .error why) ∧
      ∀ s : State, s.stream[s.pos]? = some w → IllegalWord w.toNat →
        ∃ why, step s = .refused (.flt1IllegalCommand why)

/-- R97: the seventeen words of the table of example lines decode to the commands they stand for. -/
def Obligations.SpecWordsDecode : Prop :=
  ∀ p ∈ ([(0x0000000000000000, .nop), (0x01000000000003E8, .tick 1000),
      (0x0200000000000000, .edge), (0x0800000000000000, .irq), (0x1000000000000000, .cli),
      (0x1100000000000000, .sei), (0x1800000000000000, .nowa), (0x1900000000000000, .nowb),
      (0x1A00000000000000, .nowc), (0x1B00000000000000, .now), (0x2000000000000000, .snap),
      (0x2100000000000000, .wdpoll), (0x2200000000000000, .force),
      (0x280A000000003E80, .freq 10 16000), (0x2900000000000000, .freqs),
      (0x302A000000000000, .rd .nowv), (0x3F00000000000000, .reset)] :
      List (CommandWord × Instr)), decode p.1 = .ok p.2

/-- R72: a word stored as bytes has its most significant byte, the opcode byte, first, and is read
back whole from any run of bytes that starts with it. -/
def Obligations.StoredWordsAreReadBack : Prop :=
  ∀ (w : CommandWord) (rest : List Byte),
    (bytesOfWord w).head? = some (w.extractLsb' 56 8) ∧
      wordOfBytes (bytesOfWord w ++ rest) = some (w, rest) ∧
      decodeBytes (bytesOfWord w ++ rest) = some (decode w, rest)

/-- R97: the text line of a well-formed command assembles to that command. How a line is written
out (one blank after the mnemonic, decimal numbers, register names) is the model's choice, log
entry 9. -/
def Obligations.WrittenLineAssemblesToItsCommand : Prop :=
  ∀ i : Instr, i.wellFormed = true → assembleLine (lineOf i) = some [i]

/-- R91: a step runs the command the next word of the stream decodes to, and the position advances
by one when the command answers a next state; a fault or a refusal of the command is the step's.
That the stream and the position stand in the state is the model's choice, log entry 1. -/
def Obligations.StepRunsTheDecodedCommand : Prop :=
  ∀ (s : State) (w : CommandWord) (i : Instr), s.stream[s.pos]? = some w → decode w = .ok i →
    step s =
      match exec i s with
      | .next t => .next { t with pos := s.pos + 1 }
      | .fault r => .fault r
      | .refused r => .refused r

/-- R91: a stream of command words is executed from the first word to the last, one at a time: `k`
steps run the next `k` commands. That the stream and the position stand in the state is the model's
choice, log entry 1. -/
def Obligations.StreamRunsCommandByCommand : Prop :=
  ∀ (is : List Instr) (before after : List CommandWord) (s t : State),
    (∀ i ∈ is, i.wellFormed = true) → s.stream = before ++ is.map encode ++ after →
      s.pos = before.length → runCommands is s = .next t →
        Host.Core.run Sys2Proof.core is.length s = .next { t with pos := s.pos + is.length }

/-- No command changes the stream, the position or the parameters. R21 and R82 say so of the
position and the stream; that the three stand in the state is the model's choice, log entries 1
and 3. -/
def Obligations.CommandsLeaveStreamAndParameters : Prop :=
  ∀ (i : Instr) (s t : State), exec i s = .next t →
    t.stream = s.stream ∧ t.pos = s.pos ∧ t.cfg = s.cfg

/-! ### Reset -/

/-- R57: the reset value of every register. -/
def Obligations.ResetStateHoldsTheResetValues : Prop :=
  let s := State.reset
  (s.tcnt = 0 ∧ s.tov = false ∧ s.sovf = 0 ∧ s.ecnt = 0 ∧ s.ek = 1 ∧ s.cmf = false ∧
    s.edgf = false ∧ s.edgeIe = true ∧ s.gie = false ∧ s.xcnt = 0 ∧ s.xlim = 1) ∧
  (s.sPeriod = 0xFFFFFFFF ∧ readReg .sRlog s = 0 ∧ readReg .sPlog s = 0 ∧ s.sAwait = true ∧
    s.sStart = 0) ∧
  (s.fPeriod = 0xFFFFFFFF ∧ s.fRlog = 1 ∧ s.fPlog = 1 ∧ s.fAwait = true ∧ s.fStart = 0) ∧
  (s.active = .slow ∧ s.wdog = 4) ∧
  (s.lOvf = 0 ∧ s.lLo = 0 ∧ s.nowv = 0 ∧ s.snapN = 0 ∧ s.snapP = 0 ∧ s.fq = 0 ∧ s.fqu = false ∧
    s.dout = 0)

/-- R210: `RESET` completes from any state, with either value of `GIE`, and leaves every register
at its reset value. -/
def Obligations.ResetCommandResetsEveryRegister : Prop :=
  ∀ s : State, ∃ t, exec .reset s = .next t ∧
    (t.tcnt = 0 ∧ t.tov = false ∧ t.sovf = 0 ∧ t.ecnt = 0 ∧ t.ek = 1 ∧ t.cmf = false ∧
      t.edgf = false ∧ t.edgeIe = true ∧ t.gie = false ∧ t.xcnt = 0 ∧ t.xlim = 1) ∧
    (t.sPeriod = periodMax ∧ readReg .sRlog t = 0 ∧ readReg .sPlog t = 0 ∧ t.sAwait = true ∧
      t.sStart = 0) ∧
    (t.fPeriod = periodMax ∧ t.fRlog = 1 ∧ t.fPlog = 1 ∧ t.fAwait = true ∧ t.fStart = 0) ∧
    (t.active = .slow ∧ t.wdog = s.cfg.ceiling) ∧
    (t.lOvf = 0 ∧ t.lLo = 0 ∧ t.nowv = 0 ∧ t.snapN = 0 ∧ t.snapP = 0 ∧ t.fq = 0 ∧ t.fqu = false ∧
      t.dout = 0)

/-! ### Register invariants -/

/-- R58 (which the spec derives): every step keeps the register invariants, from every state that
meets them. -/
def Obligations.StepKeepsRegisterInvariants : Prop :=
  ∀ s t : State, RegisterInvariants s → step s = .next t → RegisterInvariants t

/-- R58 (which the spec derives): the register invariants hold at reset, and after `RESET` with any
parameters. -/
def Obligations.ResetMeetsRegisterInvariants : Prop :=
  RegisterInvariants State.reset ∧
    ∀ s : State, ∃ t, exec .reset s = .next t ∧ RegisterInvariants t

/-! ### Tick Clock -/

/-- R111: `TICK d` is `d` rounds of "count up by one, set the flag at the wrap to 0", and equals the
closed form; it changes nothing but `TCNT` and `TOV`. -/
def Obligations.TickIsRepeatedSingleTicks : Prop :=
  ∀ (d : BitVec 32) (s : State),
    exec (.tick d) s =
        .next ((fun u : State =>
          { u with tcnt := u.tcnt + 1, tov := if u.tcnt + 1 = 0 then true else u.tov })^[d.toNat] s) ∧
      exec (.tick d) s =
        .next { s with
          tcnt := BitVec.ofNat 16 ((s.tcnt.toNat + d.toNat) % 2 ^ 16)
          tov := if 1 ≤ (s.tcnt.toNat + d.toNat) / 2 ^ 16 then true else s.tov }

/-- R112: with an overflow pending every wrap is lost, without one every wrap but the first. A `TICK`
loses `2^NW` ticks for each of them and leaves `TOV` set; it loses nothing exactly when it wraps at
most once, and not while an overflow is pending. -/
def Obligations.UncountedWrapsAreLost : Prop :=
  ∀ (d : BitVec 32) (s : State),
    let lost := bit s.tov + (s.tcnt.toNat + d.toNat) / 2 ^ 16 - 1
    ∃ t, exec (.tick d) s = .next t ∧
      composedTicks t + 2 ^ 16 * lost = composedTicks s + d.toNat ∧
      (losesNoWrap (.tick d) s = true ↔ lost = 0) ∧
      (0 < lost → t.tov = true)

/-- R113, R206, R242: with the overflow pending and no other interrupt pending and enabled, `IRQ`
runs `ISR_OVF`, whose only effect beside clearing `TOV` is to increment `SOVF` modulo `2^SW`. -/
def Obligations.OverflowHandlerCountsOneOverflow : Prop :=
  ∀ s : State, s.gie = true → s.tov = true → s.cmf = false →
    (s.edgf && s.edgeIe) = false →
      exec .irq s =
        .next { s with tov := false, sovf := BitVec.ofNat 16 ((s.sovf.toNat + 1) % 2 ^ 16) }

/-- R114, R115, R116: the three steps of the tick read, with their fault when `GIE = 1`. -/
def Obligations.SplitReadSteps : Prop :=
  ∀ s : State,
    (s.gie = false →
      exec .nowa s = .next { s with lOvf := s.sovf } ∧
      exec .nowb s = .next { s with lLo := s.tcnt } ∧
      exec .nowc s = .next { s with
        nowv := BitVec.ofNat 32
          ((s.lOvf.toNat +
              (if s.tov = true ∧ s.lLo.toNat < s.cfg.ovfThreshold then 1 else 0)) % 2 ^ 16 * 2 ^ 16 +
            s.lLo.toNat) }) ∧
    (s.gie = true →
      exec .nowa s = .fault .flt2UnprotectedAccess ∧
      exec .nowb s = .fault .flt2UnprotectedAccess ∧
      exec .nowc s = .fault .flt2UnprotectedAccess)

/-- R117: the tick value `now()` returns. -/
def Obligations.NowIsTheCheckedTickValue : Prop :=
  ∀ s : State,
    (nowTick s).toNat =
      (s.sovf.toNat +
          (if s.tov = true ∧ s.tcnt.toNat < s.cfg.ovfThreshold then 1 else 0)) % 2 ^ 16 * 2 ^ 16 +
        s.tcnt.toNat

/-- R118: `NOW` latches `SOVF`, `TCNT` and `now()`, ends in the same state as the three steps with
no command in between, and faults when `GIE = 1`. -/
def Obligations.NowEqualsTheThreeReads : Prop :=
  ∀ s : State,
    (s.gie = false →
      exec .now s = .next { s with lOvf := s.sovf, lLo := s.tcnt, nowv := nowTick s } ∧
      runCommands [.nowa, .nowb, .nowc] s = exec .now s) ∧
    (s.gie = true → exec .now s = .fault .flt2UnprotectedAccess)

/-- R119 (which the spec derives): along every overflow-safe run the registers hold the ticks since
reset, modulo `2^TW`; `now()` is exact unless the overflow has been pending for `OVF_THRESHOLD`
ticks, and `2^NW` too small in that one case. -/
def Obligations.ReadHoldsTrueTime : Prop :=
  ∀ (is : List Instr) (s t : State) (time : Nat), TracksTime time s →
    overflowSafe is s = true → runCommands is s = .next t →
      TracksTime (timeAfterAll is time) t ∧
      (overflowPendingTooLong t = false →
        (nowTick t).toNat = timeAfterAll is time % 2 ^ 32) ∧
      (overflowPendingTooLong t = true →
        ((nowTick t).toNat + 2 ^ 16) % 2 ^ 32 = timeAfterAll is time % 2 ^ 32)

/-- R120 (which the spec derives): a split read with `a` ticks before and `b` ticks after the read
of the hardware count returns the time of that read exactly when the check's outcome equals the
pending bit at that read; it does so when the overflow had been pending for fewer than
`OVF_THRESHOLD` ticks and at most `2^NW - OVF_THRESHOLD` ticks follow. -/
def Obligations.SplitReadReturnsTheReadInstant : Prop :=
  ∀ (s : State) (time : Nat) (a b : BitVec 32), s.gie = false → TracksTime time s →
    overflowSafe [.nowa, .tick a, .nowb, .tick b, .nowc] s = true →
      ∃ u v, runCommands [.nowa, .tick a, .nowb] s = .next u ∧
        runCommands [.tick b, .nowc] u = .next v ∧
        (v.nowv.toNat = (time + a.toNat) % 2 ^ 32 ↔
          ((v.tov = true ∧ u.tcnt.toNat < s.cfg.ovfThreshold) ↔ u.tov = true)) ∧
        ((u.tov = true → u.tcnt.toNat < s.cfg.ovfThreshold) →
          b.toNat ≤ 2 ^ 16 - s.cfg.ovfThreshold → v.nowv.toNat = (time + a.toNat) % 2 ^ 32)

/-- R121 (which the spec derives): two exact reads differ by the ticks between them, modulo `2^TW`,
so the value does not decrease but for the wrap of the whole tick value. -/
def Obligations.ExactReadsDifferByElapsedTicks : Prop :=
  ∀ (is : List Instr) (s t : State), (∀ i ∈ is, i ≠ .reset) → overflowSafe is s = true →
    overflowPendingTooLong s = false → runCommands is s = .next t →
      overflowPendingTooLong t = false →
        (nowTick t - nowTick s).toNat = (is.map ticksOf).sum % 2 ^ 32

/-! ### Events -/

/-- R131: one `EDGE` clocks the hardware event counter and, while enabled, raises the edge
interrupt; it acts the same with either value of `GIE`. -/
def Obligations.EdgeIsOneEventForBothCounters : Prop :=
  ∀ s : State,
    exec .edge s =
      .next (if 2 ^ s.ek.toNat ≤ s.ecnt.toNat + 1 then
          { s with ecnt := 0, cmf := true, edgf := if s.edgeIe = true then true else s.edgf }
        else
          { s with
            ecnt := BitVec.ofNat 16 (s.ecnt.toNat + 1)
            edgf := if s.edgeIe = true then true else s.edgf })

/-- R146: the hardware raises `CMF` once per `2^EK` events: from an empty counter, the first
`2^EK - 1` events only count, and event `2^EK` clears the count and sets `CMF`. -/
def Obligations.CompareMatchOncePerWindow : Prop :=
  ∀ (s : State) (m : Nat), s.ek.toNat ≤ 16 → s.ecnt = 0 → s.cmf = false →
    m ≤ 2 ^ s.ek.toNat →
      runCommands (List.replicate m .edge) s =
        .next { s with
          ecnt := BitVec.ofNat 16 (m % 2 ^ s.ek.toNat)
          cmf := decide (m = 2 ^ s.ek.toNat)
          edgf := s.edgf || (s.edgeIe && decide (0 < m)) }

/-- R58's last sentence (which the spec derives): after an `EDGE` the count is below the limit,
also where the limit had been lowered under the count. -/
def Obligations.EdgeRestoresCountBelowLimit : Prop :=
  ∀ s : State, s.ek.toNat ≤ 16 → ∃ t, exec .edge s = .next t ∧ t.ecnt.toNat < 2 ^ t.ek.toNat

/-! ### Slow-Mode Counter -/

/-- R133: the three outcomes of `ISR_EDGE`, run by `IRQ` when the edge interrupt is pending and
enabled: first edge of an epoch; a period not below `ESC`; emergency escalation. -/
def Obligations.EdgeHandlerOutcomes : Prop :=
  ∀ s : State, s.gie = true → s.edgf = true → s.edgeIe = true →
    (s.sAwait = true →
      exec .irq s = .next { s with edgf := false, sStart := nowTick s, sAwait := false }) ∧
    (s.sAwait = false → s.cfg.esc ≤ (nowTick s - s.sStart).toNat →
      exec .irq s = .next { s with
        edgf := false, sPeriod := nowTick s - s.sStart, sStart := nowTick s, sRlog := .zero }) ∧
    (s.sAwait = false → (nowTick s - s.sStart).toNat < s.cfg.esc →
      exec .irq s = .next { s with
        sPeriod := nowTick s - s.sStart, sStart := nowTick s, sRlog := .zero
        fPlog := 1, fAwait := true, fStart := nowTick s
        ek := 1, xlim := 1, xcnt := 0, ecnt := 0
        edgeIe := false, edgf := false, active := .fast })

/-- R135 (which the spec derives): two edges `P` ticks apart, served at once, with both reads exact:
after the first the period is still what it was, after the second it is `P`, and `P < ESC` makes
Fast active before the handler returns. -/
def Obligations.TwoEdgesMeasureTheirSpacing : Prop :=
  ∀ (s : State) (P : BitVec 32), s.gie = true → s.edgeIe = true → s.sAwait = true →
    overflowPendingTooLong s = false → losesNoWrap (.tick P) s = true →
      overflowPendingTooLong (advanceTicks P s) = false →
        ∃ u v, runCommands [.edge, .irq] s = .next u ∧ u.sPeriod = s.sPeriod ∧
          runCommands [.tick P, .edge, .irq] u = .next v ∧ v.sPeriod = P ∧
          (P.toNat < s.cfg.esc → v.active = .fast ∧ v.edgeIe = false ∧ v.fPlog = 1 ∧
            v.fAwait = true ∧ v.ek = 1 ∧ v.ecnt = 0) ∧
          (s.cfg.esc ≤ P.toNat → v.active = s.active ∧ v.edgeIe = true ∧ v.fPlog = s.fPlog)

/-! ### Fast-Mode Counter -/

/-- R147: what `PROGRAM(e)` writes, and that one logical window is then `2^e` events. -/
def Obligations.ProgramSplitsTheExponent : Prop :=
  ∀ (e : Nat) (s : State), 1 ≤ e → e ≤ 20 →
    program e s = { s with ek := (program e s).ek, xlim := (program e s).xlim, xcnt := 0 } ∧
      (program e s).ek.toNat = min e 16 ∧ (program e s).xlim.toNat = 2 ^ max (e - 16) 0 ∧
      (program e s).xlim.toNat * 2 ^ (program e s).ek.toNat = 2 ^ e

/-- R149 step 5, branch A: the up-loop stops at the first doubling that reaches `LOW`, or at the
top of the range. -/
def Obligations.RaiseLoopStopsAtTheTarget : Prop :=
  ∀ low room e p : Nat, ∃ j, j ≤ room ∧
    raiseExponent low room e p = (e + j, 2 ^ j * p) ∧
    (low ≤ 2 ^ j * p ∨ j = room) ∧ ∀ i < j, 2 ^ i * p < low

/-- R149 step 5, branch B: the down-loop stops at the first halving not above `HIGH`, or at
exponent 1. -/
def Obligations.LowerLoopStopsAtTheTarget : Prop :=
  ∀ high e p : Nat, 1 ≤ e → ∃ j, j < e ∧
    lowerExponent high e p = (e - j, p / 2 ^ j) ∧
    (p / 2 ^ j ≤ high ∨ e - j = 1) ∧ ∀ i < j, high < p / 2 ^ i

/-- R152, R155, R292 (the last two derived by the spec): where the adaptation leaves the exponent
and the tracked period. After an increase the period is below `2 * LOW`, and reaches `LOW` unless
the exponent is 20; after a decrease it is above `LOW`, and not above `HIGH` unless the exponent is
1; an exponent that stays had no reason to move. -/
def Obligations.AdaptationKeepsTheWindowInBand : Prop :=
  ∀ (c : Config) (e p : Nat), 0 < c.low → 1 ≤ e → e ≤ 20 →
    (1 ≤ (adaptExponent c e p).1 ∧ (adaptExponent c e p).1 ≤ 20) ∧
    (e < (adaptExponent c e p).1 →
      (c.low ≤ (adaptExponent c e p).2 ∨ (adaptExponent c e p).1 = 20) ∧
        (adaptExponent c e p).2 < 2 * c.low) ∧
    ((adaptExponent c e p).1 < e →
      ((adaptExponent c e p).2 ≤ c.high ∨ (adaptExponent c e p).1 = 1) ∧
        c.low < (adaptExponent c e p).2) ∧
    ((adaptExponent c e p).1 = e →
      (adaptExponent c e p).2 = p ∧ (c.low ≤ p ∨ e = 20) ∧ (p ≤ c.high ∨ e = 1))

/-- R150: a non-firing run of `ISR_CMP` changes only `CMF`, `WDOG` and `XCNT`; every run, firing or
not, leaves the watchdog at its ceiling and `CMF` clear; with `XLIM = 1` every run fires, so it ends
a window at the present tick. -/
def Obligations.CompareMatchReloadsTheWatchdog : Prop :=
  ∀ s : State, s.gie = true → s.cmf = true → (s.edgf && s.edgeIe) = false →
    (s.xcnt.toNat + 1 < s.xlim.toNat →
      exec .irq s = .next { s with
        cmf := false, wdog := s.cfg.ceiling, xcnt := BitVec.ofNat 5 (s.xcnt.toNat + 1) }) ∧
    (∃ t, exec .irq s = .next t ∧ t.wdog = s.cfg.ceiling ∧ t.cmf = false ∧
      (s.xlim = 1 → s.xcnt = 0 → t.xcnt = 0 ∧ t.fStart = nowTick s))

/-- R149 step 3, R151: the first firing run of an epoch records the window start and computes no
period. -/
def Obligations.FirstFiringStartsTheWindow : Prop :=
  ∀ s : State, s.gie = true → s.cmf = true → (s.edgf && s.edgeIe) = false →
    s.xlim.toNat ≤ s.xcnt.toNat + 1 → s.xcnt.toNat + 1 < 32 → s.fAwait = true →
      exec .irq s = .next { s with
        cmf := false, wdog := s.cfg.ceiling, xcnt := 0, fStart := nowTick s, fAwait := false }

/-- R149 steps 4 to 6: a firing run that has a period stores it with the exponent it was counted
with, programs the adapted exponent, and then de-escalates, promotes Fast, or leaves the mode. -/
def Obligations.FiringRunOutcomes : Prop :=
  ∀ s : State, s.gie = true → s.cmf = true → (s.edgf && s.edgeIe) = false →
    s.xlim.toNat ≤ s.xcnt.toNat + 1 → s.xcnt.toNat + 1 < 32 → s.fAwait = false →
      let now := nowTick s
      let period := (now - s.fStart).toNat
      let e := (adaptExponent s.cfg s.fPlog.toNat period).1
      let p := (adaptExponent s.cfg s.fPlog.toNat period).2
      let measured : State := { s with
        cmf := false, wdog := s.cfg.ceiling, xcnt := 0
        fPeriod := now - s.fStart, fRlog := s.fPlog, fStart := now
        fPlog := BitVec.ofNat 5 e, ek := BitVec.ofNat 5 (min e 16)
        xlim := BitVec.ofNat 5 (2 ^ (e - 16)) }
      exec .irq s = .next
        (match s.active with
          | .fast =>
            if s.cfg.high < p ∧ e = 1 then
              { measured with
                edgeIe := true, edgf := false, sStart := now
                sPeriod := BitVec.ofNat 32 (p / 2), sAwait := true, active := .slow }
            else measured
          | .slow =>
            if (period < s.cfg.low ∧ s.fPlog.toNat < 20) ∨ s.sPeriod.toNat < s.cfg.low then
              { measured with active := .fast, edgeIe := false, edgf := false }
            else measured)

/-- R155(a) (which the spec derives): a firing run whose period is below `LOW` raises the exponent,
unless it is 20 already, programs it, and leaves Fast active. -/
def Obligations.ShortWindowRaisesTheExponent : Prop :=
  ∀ s : State, RegisterInvariants s → s.gie = true → s.cmf = true → s.edgf = false →
    fires s = true → s.fAwait = false → fastPeriod s < s.cfg.low → s.fPlog.toNat < 20 →
      ∃ t, exec .irq s = .next t ∧ s.fPlog.toNat < t.fPlog.toNat ∧ t.fPlog.toNat ≤ 20 ∧
        t.ek.toNat = min t.fPlog.toNat 16 ∧ t.active = .fast

/-- R286 (which the spec derives): a window of zero ticks sends Fast's exponent to 20 in one run,
and makes Slow escalate. -/
def Obligations.ZeroLengthWindows : Prop :=
  ∀ s : State, RegisterInvariants s → s.gie = true → 0 < s.cfg.low → 0 < s.cfg.esc →
    (s.edgf = true → s.sAwait = false → slowPeriod s = 0 →
      ∃ t, exec .irq s = .next t ∧ t.sPeriod = 0 ∧ t.active = .fast) ∧
    (s.edgf = false → s.cmf = true → fires s = true → s.fAwait = false → fastPeriod s = 0 →
      ∃ t, exec .irq s = .next t ∧ t.fPeriod = 0 ∧ t.fPlog = 20 ∧ t.ek = 16 ∧ t.xlim = 16)

/-! ### Mode Arbitrator and Watchdog -/

/-- R173 (with R172): what `FORCE` writes, from either mode, and its fault when `GIE = 1`. -/
def Obligations.ForceWritesFreshSlow : Prop :=
  ∀ s : State,
    (s.gie = false →
      exec .force s = .next { s with
        sPeriod := 0xFFFFFFFF, sRlog := .zero, sAwait := true, sStart := 0
        fPlog := 1, ek := 1, xlim := 1, xcnt := 0
        active := .slow, edgeIe := true, edgf := false }) ∧
    (s.gie = true → exec .force s = .fault .flt2UnprotectedAccess)

/-- R174: the watchdog step: a signed saturating decrement, then the forced transition if the
countdown is negative while Fast is active; a fault when `GIE = 1`. -/
def Obligations.WatchdogPollOutcomes : Prop :=
  ∀ s : State,
    (s.gie = false → ∃ w : Countdown, w.toInt = max (s.wdog.toInt - 1) (-128) ∧
      (0 ≤ w.toInt ∨ s.active = .slow → exec .wdpoll s = .next { s with wdog := w }) ∧
      (w.toInt < 0 → s.active = .fast →
        exec .wdpoll s = .next { s with
          wdog := w
          sPeriod := 0xFFFFFFFF, sRlog := .zero, sAwait := true, sStart := 0
          fPlog := 1, ek := 1, xlim := 1, xcnt := 0
          active := .slow, edgeIe := true, edgf := false })) ∧
    (s.gie = true → exec .wdpoll s = .fault .flt2UnprotectedAccess)

/-- R175, spec/90_conflicts.md C3: with Fast active and the countdown at `C >= 0`, polling
iterations with no compare-match take the forced transition exactly once, on iteration `C + 1`, and
later iterations only count down further. -/
def Obligations.WatchdogForcesSlowExactlyOnce : Prop :=
  ∀ (s : State) (C n : Nat), s.gie = false → s.active = .fast → s.wdog.toInt = C →
    (n ≤ C →
      runCommands (List.replicate n .wdpoll) s =
        .next { s with wdog := BitVec.ofInt 8 ((C : Int) - n) }) ∧
    (C < n →
      runCommands (List.replicate n .wdpoll) s =
        .next { s with
          wdog := BitVec.ofInt 8 (max ((C : Int) - n) (-128))
          sPeriod := 0xFFFFFFFF, sRlog := .zero, sAwait := true, sStart := 0
          fPlog := 1, ek := 1, xlim := 1, xcnt := 0
          active := .slow, edgeIe := true, edgf := false })

/-- R176: `SNAP` copies the active counter's exponent and period, and faults when `GIE = 1`. -/
def Obligations.SnapCopiesTheActiveRecord : Prop :=
  ∀ s : State,
    (s.gie = false →
      (s.active = .slow → exec .snap s = .next { s with snapN := 0, snapP := s.sPeriod }) ∧
      (s.active = .fast → exec .snap s = .next { s with snapN := s.fRlog, snapP := s.fPeriod })) ∧
    (s.gie = true → exec .snap s = .fault .flt2UnprotectedAccess)

/-- R177 (which the spec derives): the ways `ACTIVE` changes. Slow to Fast only by emergency
escalation or one of the two promotions; Fast to Slow only by de-escalation, the watchdog, `FORCE`
or `RESET`. -/
def Obligations.ActiveChangesOnlyByTheTable : Prop :=
  ∀ (i : Instr) (s t : State), exec i s = .next t →
    (s.active = .slow → t.active = .fast →
      (runsHandler .edgeDetect i s = true ∧ s.sAwait = false ∧ slowPeriod s < s.cfg.esc) ∨
      (runsHandler .compareMatch i s = true ∧ fires s = true ∧ s.fAwait = false ∧
        ((fastPeriod s < s.cfg.low ∧ s.fPlog.toNat < nmax) ∨ s.sPeriod.toNat < s.cfg.low))) ∧
    (s.active = .fast → t.active = .slow →
      (runsHandler .compareMatch i s = true ∧ fires s = true ∧ s.fAwait = false ∧
        s.cfg.high < (adaptExponent s.cfg s.fPlog.toNat (fastPeriod s)).2 ∧
        (adaptExponent s.cfg s.fPlog.toNat (fastPeriod s)).1 = 1) ∨
      (i = .wdpoll ∧ t.wdog.toInt < 0) ∨ i = .force ∨ i = .reset)

/-- R175: the watchdog is written by a run of `ISR_CMP` and by `RESET`, to its ceiling, and by
`WDPOLL`; by nothing else. -/
def Obligations.WatchdogWriters : Prop :=
  ∀ (i : Instr) (s t : State), exec i s = .next t →
    ((runsHandler .compareMatch i s = true ∨ i = .reset) → t.wdog = s.cfg.ceiling) ∧
    (i = .wdpoll → t.wdog.toInt = max (s.wdog.toInt - 1) (-128)) ∧
    (runsHandler .compareMatch i s = false → i ≠ .reset → i ≠ .wdpoll → t.wdog = s.wdog)

/-- R279 (which the spec derives): an escalation with the countdown at 0 or below is undone by a
`WDPOLL` that comes before the next run of `ISR_CMP`. First clause: time and edges pass in between.
Second clause: any commands stand in between but `WDPOLL`, `FORCE` and `RESET`, dispatch points and
further critical sections among them, as long as `ISR_CMP` does not run and interrupts are
suppressed in the end. -/
def Obligations.WatchdogUndoesAFreshEscalation : Prop :=
  ∀ s : State, s.gie = true → s.edgf = true → s.edgeIe = true → s.sAwait = false →
    slowPeriod s < s.cfg.esc → s.wdog.toInt ≤ 0 →
      let undone (t : State) : Prop :=
        t.active = .slow ∧ t.edgeIe = true ∧ t.sPeriod = periodMax ∧ t.sAwait = true ∧
          t.sStart = 0 ∧ t.fAwait = true ∧ t.fStart = nowTick s ∧ t.wdog.toInt < 0
      (∀ between : List Instr, (∀ i ∈ between, isEnvironment i = true) →
        ∃ t, runCommands (.irq :: between ++ [.cli, .wdpoll]) s = .next t ∧ undone t) ∧
      (∀ (between : List Instr) (u : State), (∀ i ∈ between, leavesWatchdogAndMode i = true) →
        withoutCompareMatchRun (.irq :: between) s = true →
          runCommands (.irq :: between) s = .next u → u.gie = false →
            u.active = .fast ∧ ∃ t, exec .wdpoll u = .next t ∧ undone t)

/-! ### Frequency Calculator -/

/-- R192, R193 (with R191): what `FREQ` and `FREQS` write, for the exponents 0 to 20. -/
def Obligations.CalculatorCommandResults : Prop :=
  ∀ (s : State) (n : Exponent) (ticks : BitVec 32),
    (n.toNat ≤ 20 → exec (.freq n ticks) s =
      .next (if ticks.toNat = 0 then { s with fq := 0, fqu := true }
        else { s with
          fq := BitVec.ofNat 64 ((s.cfg.k * 2 ^ n.toNat + ticks.toNat / 2) / ticks.toNat)
          fqu := false })) ∧
    (s.snapN.toNat ≤ 20 → exec .freqs s =
      .next (if s.snapP.toNat = 0 then { s with fq := 0, fqu := true }
        else { s with
          fq := BitVec.ofNat 64 ((s.cfg.k * 2 ^ s.snapN.toNat + s.snapP.toNat / 2) / s.snapP.toNat)
          fqu := false }))

/-- R195 (which the spec derives): the result is the quotient, plus one when the remainder and half
the divisor reach the divisor; that is the nearest integer, halves rounded up. -/
def Obligations.CalculatorRoundsHalfUp : Prop :=
  ∀ k n ticks : Nat, 0 < ticks →
    freqDHz k n ticks =
        k * 2 ^ n / ticks + (if ticks ≤ k * 2 ^ n % ticks + ticks / 2 then 1 else 0) ∧
      2 * (freqDHz k n ticks * ticks) ≤ 2 * (k * 2 ^ n) + ticks ∧
      2 * (k * 2 ^ n) < 2 * (freqDHz k n ticks * ticks) + ticks

/-- R191: for legal parameters, exponents up to 20 and any ticks, the result fits: `FQ` holds the
exact value, which is below `2^52`. -/
def Obligations.CalculatorNeverTruncates : Prop :=
  ∀ (s : State) (n : Exponent) (ticks : BitVec 32), s.cfg.Valid → n.toNat ≤ 20 →
    ∃ t, exec (.freq n ticks) s = .next t ∧
      t.fq.toNat = freqDHz s.cfg.k n.toNat ticks.toNat ∧ t.fq.toNat < 2 ^ 52

/-- R198 (which the spec derives): doubling the events and the window together leaves the reading
unchanged; the reading does not increase with the ticks and does not decrease with the exponent. -/
def Obligations.CalculatorScalingAndMonotony : Prop :=
  ∀ k n ticks : Nat, 0 < ticks →
    freqDHz k (n + 1) (2 * ticks) = freqDHz k n ticks ∧
      (∀ more, ticks ≤ more → freqDHz k n more ≤ freqDHz k n ticks) ∧
      (∀ m, n ≤ m → freqDHz k n ticks ≤ freqDHz k m ticks)

/-- R197 (which the spec derives): the sentinel period reads as 0 exactly when `K * 2^n < 2^31`. -/
def Obligations.SentinelPeriodReadsAsZero : Prop :=
  ∀ k n : Nat, freqDHz k n periodMax.toNat = 0 ↔ k * 2 ^ n < 2 ^ 31

/-- R196 (which the spec derives): the 32-bit numerator is exact if and only if it is below `2^32`,
and a two-width calculator whose narrow exponents all have `K * 2^n <= 2^31` agrees with the exact
one for every operand. -/
def Obligations.TwoWidthCalculatorAgrees : Prop :=
  (∀ k n ticks : Nat, ticks < 2 ^ 32 →
    ((BitVec.ofNat 32 (k * 2 ^ n) + BitVec.ofNat 32 (ticks / 2)).toNat = k * 2 ^ n + ticks / 2 ↔
      k * 2 ^ n + ticks / 2 < 2 ^ 32)) ∧
  ∀ c : Config, (∀ n < c.widthSwitchN, c.k * 2 ^ n ≤ 2 ^ 31) →
    ∀ n ticks : Nat, ticks < 2 ^ 32 → freqDHzTwoWidth c n ticks = freqDHz c.k n ticks

/-- R135, R197, R269 (which the spec derives): while Slow shows the sentinel period, a snapshot and
the calculator give 0, for every `K` below `2^31`. -/
def Obligations.NoMeasurementReadsAsPlaceholder : Prop :=
  ∀ s : State, s.gie = false → s.active = .slow → s.sPeriod = periodMax → s.cfg.k < 2 ^ 31 →
    ∃ t, runCommands [.snap, .freqs] s = .next t ∧ t.snapN = 0 ∧ t.snapP = periodMax ∧ t.fq = 0 ∧
      t.fqu = false

/-! ### Dispatch and host control -/

/-- R205, R207, R208: `NOP`, `CLI` and `SEI` complete in every state, change nothing but `GIE`, and
run no handler. -/
def Obligations.SuppressionCommands : Prop :=
  ∀ s : State, exec .nop s = .next s ∧ exec .cli s = .next { s with gie := false } ∧
    exec .sei s = .next { s with gie := true }

/-- R206: `IRQ` completes in every state: it does nothing while interrupts are suppressed or nothing
is pending, and otherwise clears the pending bit of the highest-priority pending enabled source and
runs its handler. -/
def Obligations.DispatchPicksTheHighestPriority : Prop :=
  ∀ s : State,
    exec .irq s =
      .next (if s.gie = false then s
        else if s.edgf = true ∧ s.edgeIe = true then isrEdge { s with edgf := false }
        else if s.cmf = true then isrCmp { s with cmf := false }
        else if s.tov = true then isrOvf { s with tov := false }
        else s)

/-- R98, R243: three dispatches serve everything that was pending; a further `IRQ` does nothing. -/
def Obligations.DrainServesEverything : Prop :=
  ∀ s : State, s.gie = true → (s.edgf = true → s.edgeIe = true) →
    ∃ t, runCommands drain s = .next t ∧ t.edgf = false ∧ t.cmf = false ∧ t.tov = false ∧
      t.gie = true ∧ exec .irq t = .next t

/-- R252, R211: the seven commands that need a critical section fault with `FLT2` when `GIE = 1`,
and in every other case a command answers a next state. -/
def Obligations.OnlyUnprotectedAccessFaults : Prop :=
  ∀ (i : Instr) (s : State),
    (needsSuppression i = true ∧ s.gie = true → exec i s = .fault .flt2UnprotectedAccess) ∧
      (needsSuppression i = false ∨ s.gie = false → ∃ t, exec i s = .next t)

/-- R79, R59 (R79 is derived by the spec): while `GIE = 0` the registers written only by handlers
keep their values, whatever commands run but `SEI` and `RESET`; where neither `FORCE` nor `WDPOLL`
runs, so do the registers that only these and handlers write, `WDOG` among them. -/
def Obligations.CriticalSectionFreezesHandlerRegisters : Prop :=
  ∀ (is : List Instr) (s t : State), s.gie = false → runCommands is s = .next t →
    ((∀ i ∈ is, i ≠ .sei ∧ i ≠ .reset) →
      handlerOnlyRegisters t = handlerOnlyRegisters s ∧ t.gie = false) ∧
    ((∀ i ∈ is, leavesHandlerRegisters i = true) → handlerRegisters t = handlerRegisters s)

/-- R22, R77: the host latches are written only by the commands that their rules name: no handler,
no tick, no edge, and none of `NOP`, `CLI`, `SEI`, `WDPOLL`, `FORCE` writes one. -/
def Obligations.LatchesKeepTheirValues : Prop :=
  ∀ (i : Instr) (s t : State), leavesLatches i = true → exec i s = .next t →
    hostLatches t = hostLatches s

/-- R209 with R71: `RD r` copies the whole register `r`, zero-extended, into `DOUT` and changes
nothing else. -/
def Obligations.ReadCopiesTheRegister : Prop :=
  ∀ s : State,
    (∀ r : Reg, exec (.rd r) s = .next { s with dout := readReg r s }) ∧
    ((readReg .tcnt s).toNat = s.tcnt.toNat ∧ (readReg .tov s).toNat = bit s.tov ∧
      (readReg .sovf s).toNat = s.sovf.toNat ∧ (readReg .ecnt s).toNat = s.ecnt.toNat ∧
      (readReg .ek s).toNat = s.ek.toNat ∧ (readReg .cmf s).toNat = bit s.cmf ∧
      (readReg .edgf s).toNat = bit s.edgf ∧ (readReg .edgeIe s).toNat = bit s.edgeIe ∧
      (readReg .gie s).toNat = bit s.gie ∧ (readReg .xcnt s).toNat = s.xcnt.toNat ∧
      (readReg .xlim s).toNat = s.xlim.toNat) ∧
    ((readReg .sPeriod s).toNat = s.sPeriod.toNat ∧ readReg .sRlog s = 0 ∧ readReg .sPlog s = 0 ∧
      (readReg .sAwait s).toNat = bit s.sAwait ∧ (readReg .sStart s).toNat = s.sStart.toNat) ∧
    ((readReg .fPeriod s).toNat = s.fPeriod.toNat ∧ (readReg .fRlog s).toNat = s.fRlog.toNat ∧
      (readReg .fPlog s).toNat = s.fPlog.toNat ∧ (readReg .fAwait s).toNat = bit s.fAwait ∧
      (readReg .fStart s).toNat = s.fStart.toNat) ∧
    ((readReg .active s).toNat = (match s.active with | .slow => 0 | .fast => 1) ∧
      (readReg .wdog s).toNat = s.wdog.toNat) ∧
    ((readReg .lOvf s).toNat = s.lOvf.toNat ∧ (readReg .lLo s).toNat = s.lLo.toNat ∧
      (readReg .nowv s).toNat = s.nowv.toNat ∧ (readReg .snapN s).toNat = s.snapN.toNat ∧
      (readReg .snapP s).toNat = s.snapP.toNat ∧ readReg .fq s = s.fq ∧
      (readReg .fqu s).toNat = bit s.fqu ∧ readReg .dout s = s.dout)
end

