-- ==== Sys2Proof/Laws/Encoding.lean ====
section
/-!
SUPPORT. The small lemmas of the encoding (spec/30_encoding.md R90 to R95, spec/20_memory.md R71,
R72): the fields of an assembled word, the check of the unused fields, the register indices, the
stored bytes.
-/
namespace Sys2Proof

/-! ### The fields of an assembled word -/

@[simp] theorem opField_wordOf (op a : BitVec 8) (imm : BitVec 32) :
    opField (wordOf op a imm) = op := by
  apply BitVec.eq_of_getLsbD_eq
  intro i hi
  simp [opField, wordOf, hi]
  grind

@[simp] theorem aField_wordOf (op a : BitVec 8) (imm : BitVec 32) :
    aField (wordOf op a imm) = a := by
  apply BitVec.eq_of_getLsbD_eq
  intro i hi
  simp [aField, wordOf, hi]
  grind

@[simp] theorem zField_wordOf (op a : BitVec 8) (imm : BitVec 32) :
    zField (wordOf op a imm) = 0 := by
  apply BitVec.eq_of_getLsbD_eq
  intro i hi
  simp [zField, wordOf, hi]
  grind

@[simp] theorem immField_wordOf (op a : BitVec 8) (imm : BitVec 32) :
    immField (wordOf op a imm) = imm := by
  apply BitVec.eq_of_getLsbD_eq
  intro i hi
  simp [immField, wordOf, hi]
  grind

/-- A word whose `z` field is zero is the word of its other fields. -/
theorem wordOf_fields {w : CommandWord} (hz : zField w = 0) :
    wordOf (opField w) (aField w) (immField w) = w := by
  have h : w = opField w ++ aField w ++ zField w ++ immField w := by
    apply BitVec.eq_of_getLsbD_eq
    intro i hi
    simp [opField, aField, zField, immField, hi]
    grind
  rw [hz] at h
  exact h.symm

/-- The check of the unused fields passes exactly when each of them is zero (R94). -/
theorem unusedFieldError_eq_none_iff {f : Format} {w : CommandWord} :
    unusedFieldError f w = none ↔
      zField w = 0 ∧ (f.usesA = false → aField w = 0) ∧ (f.usesImm = false → immField w = 0) := by
  unfold unusedFieldError
  split_ifs <;> simp_all

/-- The index of a register names that register (R71). -/
theorem ofIndex_index (r : Reg) : Reg.ofIndex r.index = some r := by
  cases r <;> decide

/-- The register an index names has that index (R71). -/
theorem index_of_ofIndex {a : Index} {r : Reg} (h : Reg.ofIndex a = some r) : r.index = a := by
  simpa using List.find?_some h

/-- A stored word is read back, and the bytes after it are left (R72). -/
theorem wordOfBytes_bytesOfWord (w : CommandWord) (rest : List Byte) :
    wordOfBytes (bytesOfWord w ++ rest) = some (w, rest) := by
  simp only [bytesOfWord, wordOfBytes, List.cons_append, List.nil_append, Option.some.injEq,
    Prod.mk.injEq, and_true]
  apply BitVec.eq_of_getLsbD_eq
  intro i hi
  simp [hi]
  grind

end Sys2Proof
end

