-- ==== Sys2Proof/Laws/State.lean ====
section
/-!
SUPPORT. What each named update of the state leaves in each field: one lemma per field per update,
true by `rfl`.
-/
namespace Sys2Proof.Machine

/-! ### `advanceTicks` -/

@[simp] theorem advanceTicks_tcnt (d : BitVec 32) (s : State) : (advanceTicks d s).tcnt = BitVec.ofNat 16 (s.tcnt.toNat + d.toNat) := rfl
@[simp] theorem advanceTicks_tov (d : BitVec 32) (s : State) : (advanceTicks d s).tov = tovAfterTicks s.tov s.tcnt d := rfl
@[simp] theorem advanceTicks_sovf (d : BitVec 32) (s : State) : (advanceTicks d s).sovf = s.sovf := rfl
@[simp] theorem advanceTicks_ecnt (d : BitVec 32) (s : State) : (advanceTicks d s).ecnt = s.ecnt := rfl
@[simp] theorem advanceTicks_ek (d : BitVec 32) (s : State) : (advanceTicks d s).ek = s.ek := rfl
@[simp] theorem advanceTicks_cmf (d : BitVec 32) (s : State) : (advanceTicks d s).cmf = s.cmf := rfl
@[simp] theorem advanceTicks_edgf (d : BitVec 32) (s : State) : (advanceTicks d s).edgf = s.edgf := rfl
@[simp] theorem advanceTicks_edgeIe (d : BitVec 32) (s : State) : (advanceTicks d s).edgeIe = s.edgeIe := rfl
@[simp] theorem advanceTicks_gie (d : BitVec 32) (s : State) : (advanceTicks d s).gie = s.gie := rfl
@[simp] theorem advanceTicks_xcnt (d : BitVec 32) (s : State) : (advanceTicks d s).xcnt = s.xcnt := rfl
@[simp] theorem advanceTicks_xlim (d : BitVec 32) (s : State) : (advanceTicks d s).xlim = s.xlim := rfl
@[simp] theorem advanceTicks_sPeriod (d : BitVec 32) (s : State) : (advanceTicks d s).sPeriod = s.sPeriod := rfl
@[simp] theorem advanceTicks_sRlog (d : BitVec 32) (s : State) : (advanceTicks d s).sRlog = s.sRlog := rfl
@[simp] theorem advanceTicks_sPlog (d : BitVec 32) (s : State) : (advanceTicks d s).sPlog = s.sPlog := rfl
@[simp] theorem advanceTicks_sAwait (d : BitVec 32) (s : State) : (advanceTicks d s).sAwait = s.sAwait := rfl
@[simp] theorem advanceTicks_sStart (d : BitVec 32) (s : State) : (advanceTicks d s).sStart = s.sStart := rfl
@[simp] theorem advanceTicks_fPeriod (d : BitVec 32) (s : State) : (advanceTicks d s).fPeriod = s.fPeriod := rfl
@[simp] theorem advanceTicks_fRlog (d : BitVec 32) (s : State) : (advanceTicks d s).fRlog = s.fRlog := rfl
@[simp] theorem advanceTicks_fPlog (d : BitVec 32) (s : State) : (advanceTicks d s).fPlog = s.fPlog := rfl
@[simp] theorem advanceTicks_fAwait (d : BitVec 32) (s : State) : (advanceTicks d s).fAwait = s.fAwait := rfl
@[simp] theorem advanceTicks_fStart (d : BitVec 32) (s : State) : (advanceTicks d s).fStart = s.fStart := rfl
@[simp] theorem advanceTicks_active (d : BitVec 32) (s : State) : (advanceTicks d s).active = s.active := rfl
@[simp] theorem advanceTicks_wdog (d : BitVec 32) (s : State) : (advanceTicks d s).wdog = s.wdog := rfl
@[simp] theorem advanceTicks_lOvf (d : BitVec 32) (s : State) : (advanceTicks d s).lOvf = s.lOvf := rfl
@[simp] theorem advanceTicks_lLo (d : BitVec 32) (s : State) : (advanceTicks d s).lLo = s.lLo := rfl
@[simp] theorem advanceTicks_nowv (d : BitVec 32) (s : State) : (advanceTicks d s).nowv = s.nowv := rfl
@[simp] theorem advanceTicks_snapN (d : BitVec 32) (s : State) : (advanceTicks d s).snapN = s.snapN := rfl
@[simp] theorem advanceTicks_snapP (d : BitVec 32) (s : State) : (advanceTicks d s).snapP = s.snapP := rfl
@[simp] theorem advanceTicks_fq (d : BitVec 32) (s : State) : (advanceTicks d s).fq = s.fq := rfl
@[simp] theorem advanceTicks_fqu (d : BitVec 32) (s : State) : (advanceTicks d s).fqu = s.fqu := rfl
@[simp] theorem advanceTicks_dout (d : BitVec 32) (s : State) : (advanceTicks d s).dout = s.dout := rfl
@[simp] theorem advanceTicks_stream (d : BitVec 32) (s : State) : (advanceTicks d s).stream = s.stream := rfl
@[simp] theorem advanceTicks_pos (d : BitVec 32) (s : State) : (advanceTicks d s).pos = s.pos := rfl
@[simp] theorem advanceTicks_cfg (d : BitVec 32) (s : State) : (advanceTicks d s).cfg = s.cfg := rfl

/-! ### `writeEdgeIe` -/

@[simp] theorem writeEdgeIe_tcnt (b : Bool) (s : State) : (writeEdgeIe b s).tcnt = s.tcnt := rfl
@[simp] theorem writeEdgeIe_tov (b : Bool) (s : State) : (writeEdgeIe b s).tov = s.tov := rfl
@[simp] theorem writeEdgeIe_sovf (b : Bool) (s : State) : (writeEdgeIe b s).sovf = s.sovf := rfl
@[simp] theorem writeEdgeIe_ecnt (b : Bool) (s : State) : (writeEdgeIe b s).ecnt = s.ecnt := rfl
@[simp] theorem writeEdgeIe_ek (b : Bool) (s : State) : (writeEdgeIe b s).ek = s.ek := rfl
@[simp] theorem writeEdgeIe_cmf (b : Bool) (s : State) : (writeEdgeIe b s).cmf = s.cmf := rfl
@[simp] theorem writeEdgeIe_edgf (b : Bool) (s : State) : (writeEdgeIe b s).edgf = false := rfl
@[simp] theorem writeEdgeIe_edgeIe (b : Bool) (s : State) : (writeEdgeIe b s).edgeIe = b := rfl
@[simp] theorem writeEdgeIe_gie (b : Bool) (s : State) : (writeEdgeIe b s).gie = s.gie := rfl
@[simp] theorem writeEdgeIe_xcnt (b : Bool) (s : State) : (writeEdgeIe b s).xcnt = s.xcnt := rfl
@[simp] theorem writeEdgeIe_xlim (b : Bool) (s : State) : (writeEdgeIe b s).xlim = s.xlim := rfl
@[simp] theorem writeEdgeIe_sPeriod (b : Bool) (s : State) : (writeEdgeIe b s).sPeriod = s.sPeriod := rfl
@[simp] theorem writeEdgeIe_sRlog (b : Bool) (s : State) : (writeEdgeIe b s).sRlog = s.sRlog := rfl
@[simp] theorem writeEdgeIe_sPlog (b : Bool) (s : State) : (writeEdgeIe b s).sPlog = s.sPlog := rfl
@[simp] theorem writeEdgeIe_sAwait (b : Bool) (s : State) : (writeEdgeIe b s).sAwait = s.sAwait := rfl
@[simp] theorem writeEdgeIe_sStart (b : Bool) (s : State) : (writeEdgeIe b s).sStart = s.sStart := rfl
@[simp] theorem writeEdgeIe_fPeriod (b : Bool) (s : State) : (writeEdgeIe b s).fPeriod = s.fPeriod := rfl
@[simp] theorem writeEdgeIe_fRlog (b : Bool) (s : State) : (writeEdgeIe b s).fRlog = s.fRlog := rfl
@[simp] theorem writeEdgeIe_fPlog (b : Bool) (s : State) : (writeEdgeIe b s).fPlog = s.fPlog := rfl
@[simp] theorem writeEdgeIe_fAwait (b : Bool) (s : State) : (writeEdgeIe b s).fAwait = s.fAwait := rfl
@[simp] theorem writeEdgeIe_fStart (b : Bool) (s : State) : (writeEdgeIe b s).fStart = s.fStart := rfl
@[simp] theorem writeEdgeIe_active (b : Bool) (s : State) : (writeEdgeIe b s).active = s.active := rfl
@[simp] theorem writeEdgeIe_wdog (b : Bool) (s : State) : (writeEdgeIe b s).wdog = s.wdog := rfl
@[simp] theorem writeEdgeIe_lOvf (b : Bool) (s : State) : (writeEdgeIe b s).lOvf = s.lOvf := rfl
@[simp] theorem writeEdgeIe_lLo (b : Bool) (s : State) : (writeEdgeIe b s).lLo = s.lLo := rfl
@[simp] theorem writeEdgeIe_nowv (b : Bool) (s : State) : (writeEdgeIe b s).nowv = s.nowv := rfl
@[simp] theorem writeEdgeIe_snapN (b : Bool) (s : State) : (writeEdgeIe b s).snapN = s.snapN := rfl
@[simp] theorem writeEdgeIe_snapP (b : Bool) (s : State) : (writeEdgeIe b s).snapP = s.snapP := rfl
@[simp] theorem writeEdgeIe_fq (b : Bool) (s : State) : (writeEdgeIe b s).fq = s.fq := rfl
@[simp] theorem writeEdgeIe_fqu (b : Bool) (s : State) : (writeEdgeIe b s).fqu = s.fqu := rfl
@[simp] theorem writeEdgeIe_dout (b : Bool) (s : State) : (writeEdgeIe b s).dout = s.dout := rfl
@[simp] theorem writeEdgeIe_stream (b : Bool) (s : State) : (writeEdgeIe b s).stream = s.stream := rfl
@[simp] theorem writeEdgeIe_pos (b : Bool) (s : State) : (writeEdgeIe b s).pos = s.pos := rfl
@[simp] theorem writeEdgeIe_cfg (b : Bool) (s : State) : (writeEdgeIe b s).cfg = s.cfg := rfl

/-! ### `program` -/

@[simp] theorem program_tcnt (e : Nat) (s : State) : (program e s).tcnt = s.tcnt := rfl
@[simp] theorem program_tov (e : Nat) (s : State) : (program e s).tov = s.tov := rfl
@[simp] theorem program_sovf (e : Nat) (s : State) : (program e s).sovf = s.sovf := rfl
@[simp] theorem program_ecnt (e : Nat) (s : State) : (program e s).ecnt = s.ecnt := rfl
@[simp] theorem program_ek (e : Nat) (s : State) : (program e s).ek = hardwareLimit e := rfl
@[simp] theorem program_cmf (e : Nat) (s : State) : (program e s).cmf = s.cmf := rfl
@[simp] theorem program_edgf (e : Nat) (s : State) : (program e s).edgf = s.edgf := rfl
@[simp] theorem program_edgeIe (e : Nat) (s : State) : (program e s).edgeIe = s.edgeIe := rfl
@[simp] theorem program_gie (e : Nat) (s : State) : (program e s).gie = s.gie := rfl
@[simp] theorem program_xcnt (e : Nat) (s : State) : (program e s).xcnt = 0 := rfl
@[simp] theorem program_xlim (e : Nat) (s : State) : (program e s).xlim = softwareLimit e := rfl
@[simp] theorem program_sPeriod (e : Nat) (s : State) : (program e s).sPeriod = s.sPeriod := rfl
@[simp] theorem program_sRlog (e : Nat) (s : State) : (program e s).sRlog = s.sRlog := rfl
@[simp] theorem program_sPlog (e : Nat) (s : State) : (program e s).sPlog = s.sPlog := rfl
@[simp] theorem program_sAwait (e : Nat) (s : State) : (program e s).sAwait = s.sAwait := rfl
@[simp] theorem program_sStart (e : Nat) (s : State) : (program e s).sStart = s.sStart := rfl
@[simp] theorem program_fPeriod (e : Nat) (s : State) : (program e s).fPeriod = s.fPeriod := rfl
@[simp] theorem program_fRlog (e : Nat) (s : State) : (program e s).fRlog = s.fRlog := rfl
@[simp] theorem program_fPlog (e : Nat) (s : State) : (program e s).fPlog = s.fPlog := rfl
@[simp] theorem program_fAwait (e : Nat) (s : State) : (program e s).fAwait = s.fAwait := rfl
@[simp] theorem program_fStart (e : Nat) (s : State) : (program e s).fStart = s.fStart := rfl
@[simp] theorem program_active (e : Nat) (s : State) : (program e s).active = s.active := rfl
@[simp] theorem program_wdog (e : Nat) (s : State) : (program e s).wdog = s.wdog := rfl
@[simp] theorem program_lOvf (e : Nat) (s : State) : (program e s).lOvf = s.lOvf := rfl
@[simp] theorem program_lLo (e : Nat) (s : State) : (program e s).lLo = s.lLo := rfl
@[simp] theorem program_nowv (e : Nat) (s : State) : (program e s).nowv = s.nowv := rfl
@[simp] theorem program_snapN (e : Nat) (s : State) : (program e s).snapN = s.snapN := rfl
@[simp] theorem program_snapP (e : Nat) (s : State) : (program e s).snapP = s.snapP := rfl
@[simp] theorem program_fq (e : Nat) (s : State) : (program e s).fq = s.fq := rfl
@[simp] theorem program_fqu (e : Nat) (s : State) : (program e s).fqu = s.fqu := rfl
@[simp] theorem program_dout (e : Nat) (s : State) : (program e s).dout = s.dout := rfl
@[simp] theorem program_stream (e : Nat) (s : State) : (program e s).stream = s.stream := rfl
@[simp] theorem program_pos (e : Nat) (s : State) : (program e s).pos = s.pos := rfl
@[simp] theorem program_cfg (e : Nat) (s : State) : (program e s).cfg = s.cfg := rfl

/-! ### `setFastExponent` -/

@[simp] theorem setFastExponent_tcnt (e : Nat) (s : State) : (setFastExponent e s).tcnt = s.tcnt := rfl
@[simp] theorem setFastExponent_tov (e : Nat) (s : State) : (setFastExponent e s).tov = s.tov := rfl
@[simp] theorem setFastExponent_sovf (e : Nat) (s : State) : (setFastExponent e s).sovf = s.sovf := rfl
@[simp] theorem setFastExponent_ecnt (e : Nat) (s : State) : (setFastExponent e s).ecnt = s.ecnt := rfl
@[simp] theorem setFastExponent_ek (e : Nat) (s : State) : (setFastExponent e s).ek = hardwareLimit e := rfl
@[simp] theorem setFastExponent_cmf (e : Nat) (s : State) : (setFastExponent e s).cmf = s.cmf := rfl
@[simp] theorem setFastExponent_edgf (e : Nat) (s : State) : (setFastExponent e s).edgf = s.edgf := rfl
@[simp] theorem setFastExponent_edgeIe (e : Nat) (s : State) : (setFastExponent e s).edgeIe = s.edgeIe := rfl
@[simp] theorem setFastExponent_gie (e : Nat) (s : State) : (setFastExponent e s).gie = s.gie := rfl
@[simp] theorem setFastExponent_xcnt (e : Nat) (s : State) : (setFastExponent e s).xcnt = 0 := rfl
@[simp] theorem setFastExponent_xlim (e : Nat) (s : State) : (setFastExponent e s).xlim = softwareLimit e := rfl
@[simp] theorem setFastExponent_sPeriod (e : Nat) (s : State) : (setFastExponent e s).sPeriod = s.sPeriod := rfl
@[simp] theorem setFastExponent_sRlog (e : Nat) (s : State) : (setFastExponent e s).sRlog = s.sRlog := rfl
@[simp] theorem setFastExponent_sPlog (e : Nat) (s : State) : (setFastExponent e s).sPlog = s.sPlog := rfl
@[simp] theorem setFastExponent_sAwait (e : Nat) (s : State) : (setFastExponent e s).sAwait = s.sAwait := rfl
@[simp] theorem setFastExponent_sStart (e : Nat) (s : State) : (setFastExponent e s).sStart = s.sStart := rfl
@[simp] theorem setFastExponent_fPeriod (e : Nat) (s : State) : (setFastExponent e s).fPeriod = s.fPeriod := rfl
@[simp] theorem setFastExponent_fRlog (e : Nat) (s : State) : (setFastExponent e s).fRlog = s.fRlog := rfl
@[simp] theorem setFastExponent_fPlog (e : Nat) (s : State) : (setFastExponent e s).fPlog = BitVec.ofNat 5 e := rfl
@[simp] theorem setFastExponent_fAwait (e : Nat) (s : State) : (setFastExponent e s).fAwait = s.fAwait := rfl
@[simp] theorem setFastExponent_fStart (e : Nat) (s : State) : (setFastExponent e s).fStart = s.fStart := rfl
@[simp] theorem setFastExponent_active (e : Nat) (s : State) : (setFastExponent e s).active = s.active := rfl
@[simp] theorem setFastExponent_wdog (e : Nat) (s : State) : (setFastExponent e s).wdog = s.wdog := rfl
@[simp] theorem setFastExponent_lOvf (e : Nat) (s : State) : (setFastExponent e s).lOvf = s.lOvf := rfl
@[simp] theorem setFastExponent_lLo (e : Nat) (s : State) : (setFastExponent e s).lLo = s.lLo := rfl
@[simp] theorem setFastExponent_nowv (e : Nat) (s : State) : (setFastExponent e s).nowv = s.nowv := rfl
@[simp] theorem setFastExponent_snapN (e : Nat) (s : State) : (setFastExponent e s).snapN = s.snapN := rfl
@[simp] theorem setFastExponent_snapP (e : Nat) (s : State) : (setFastExponent e s).snapP = s.snapP := rfl
@[simp] theorem setFastExponent_fq (e : Nat) (s : State) : (setFastExponent e s).fq = s.fq := rfl
@[simp] theorem setFastExponent_fqu (e : Nat) (s : State) : (setFastExponent e s).fqu = s.fqu := rfl
@[simp] theorem setFastExponent_dout (e : Nat) (s : State) : (setFastExponent e s).dout = s.dout := rfl
@[simp] theorem setFastExponent_stream (e : Nat) (s : State) : (setFastExponent e s).stream = s.stream := rfl
@[simp] theorem setFastExponent_pos (e : Nat) (s : State) : (setFastExponent e s).pos = s.pos := rfl
@[simp] theorem setFastExponent_cfg (e : Nat) (s : State) : (setFastExponent e s).cfg = s.cfg := rfl

/-! ### `makeFastActive` -/

@[simp] theorem makeFastActive_tcnt (s : State) : (makeFastActive s).tcnt = s.tcnt := rfl
@[simp] theorem makeFastActive_tov (s : State) : (makeFastActive s).tov = s.tov := rfl
@[simp] theorem makeFastActive_sovf (s : State) : (makeFastActive s).sovf = s.sovf := rfl
@[simp] theorem makeFastActive_ecnt (s : State) : (makeFastActive s).ecnt = s.ecnt := rfl
@[simp] theorem makeFastActive_ek (s : State) : (makeFastActive s).ek = s.ek := rfl
@[simp] theorem makeFastActive_cmf (s : State) : (makeFastActive s).cmf = s.cmf := rfl
@[simp] theorem makeFastActive_edgf (s : State) : (makeFastActive s).edgf = false := rfl
@[simp] theorem makeFastActive_edgeIe (s : State) : (makeFastActive s).edgeIe = false := rfl
@[simp] theorem makeFastActive_gie (s : State) : (makeFastActive s).gie = s.gie := rfl
@[simp] theorem makeFastActive_xcnt (s : State) : (makeFastActive s).xcnt = s.xcnt := rfl
@[simp] theorem makeFastActive_xlim (s : State) : (makeFastActive s).xlim = s.xlim := rfl
@[simp] theorem makeFastActive_sPeriod (s : State) : (makeFastActive s).sPeriod = s.sPeriod := rfl
@[simp] theorem makeFastActive_sRlog (s : State) : (makeFastActive s).sRlog = s.sRlog := rfl
@[simp] theorem makeFastActive_sPlog (s : State) : (makeFastActive s).sPlog = s.sPlog := rfl
@[simp] theorem makeFastActive_sAwait (s : State) : (makeFastActive s).sAwait = s.sAwait := rfl
@[simp] theorem makeFastActive_sStart (s : State) : (makeFastActive s).sStart = s.sStart := rfl
@[simp] theorem makeFastActive_fPeriod (s : State) : (makeFastActive s).fPeriod = s.fPeriod := rfl
@[simp] theorem makeFastActive_fRlog (s : State) : (makeFastActive s).fRlog = s.fRlog := rfl
@[simp] theorem makeFastActive_fPlog (s : State) : (makeFastActive s).fPlog = s.fPlog := rfl
@[simp] theorem makeFastActive_fAwait (s : State) : (makeFastActive s).fAwait = s.fAwait := rfl
@[simp] theorem makeFastActive_fStart (s : State) : (makeFastActive s).fStart = s.fStart := rfl
@[simp] theorem makeFastActive_active (s : State) : (makeFastActive s).active = .fast := rfl
@[simp] theorem makeFastActive_wdog (s : State) : (makeFastActive s).wdog = s.wdog := rfl
@[simp] theorem makeFastActive_lOvf (s : State) : (makeFastActive s).lOvf = s.lOvf := rfl
@[simp] theorem makeFastActive_lLo (s : State) : (makeFastActive s).lLo = s.lLo := rfl
@[simp] theorem makeFastActive_nowv (s : State) : (makeFastActive s).nowv = s.nowv := rfl
@[simp] theorem makeFastActive_snapN (s : State) : (makeFastActive s).snapN = s.snapN := rfl
@[simp] theorem makeFastActive_snapP (s : State) : (makeFastActive s).snapP = s.snapP := rfl
@[simp] theorem makeFastActive_fq (s : State) : (makeFastActive s).fq = s.fq := rfl
@[simp] theorem makeFastActive_fqu (s : State) : (makeFastActive s).fqu = s.fqu := rfl
@[simp] theorem makeFastActive_dout (s : State) : (makeFastActive s).dout = s.dout := rfl
@[simp] theorem makeFastActive_stream (s : State) : (makeFastActive s).stream = s.stream := rfl
@[simp] theorem makeFastActive_pos (s : State) : (makeFastActive s).pos = s.pos := rfl
@[simp] theorem makeFastActive_cfg (s : State) : (makeFastActive s).cfg = s.cfg := rfl

/-! ### `makeSlowActive` -/

@[simp] theorem makeSlowActive_tcnt (s : State) : (makeSlowActive s).tcnt = s.tcnt := rfl
@[simp] theorem makeSlowActive_tov (s : State) : (makeSlowActive s).tov = s.tov := rfl
@[simp] theorem makeSlowActive_sovf (s : State) : (makeSlowActive s).sovf = s.sovf := rfl
@[simp] theorem makeSlowActive_ecnt (s : State) : (makeSlowActive s).ecnt = s.ecnt := rfl
@[simp] theorem makeSlowActive_ek (s : State) : (makeSlowActive s).ek = s.ek := rfl
@[simp] theorem makeSlowActive_cmf (s : State) : (makeSlowActive s).cmf = s.cmf := rfl
@[simp] theorem makeSlowActive_edgf (s : State) : (makeSlowActive s).edgf = false := rfl
@[simp] theorem makeSlowActive_edgeIe (s : State) : (makeSlowActive s).edgeIe = true := rfl
@[simp] theorem makeSlowActive_gie (s : State) : (makeSlowActive s).gie = s.gie := rfl
@[simp] theorem makeSlowActive_xcnt (s : State) : (makeSlowActive s).xcnt = s.xcnt := rfl
@[simp] theorem makeSlowActive_xlim (s : State) : (makeSlowActive s).xlim = s.xlim := rfl
@[simp] theorem makeSlowActive_sPeriod (s : State) : (makeSlowActive s).sPeriod = s.sPeriod := rfl
@[simp] theorem makeSlowActive_sRlog (s : State) : (makeSlowActive s).sRlog = s.sRlog := rfl
@[simp] theorem makeSlowActive_sPlog (s : State) : (makeSlowActive s).sPlog = s.sPlog := rfl
@[simp] theorem makeSlowActive_sAwait (s : State) : (makeSlowActive s).sAwait = s.sAwait := rfl
@[simp] theorem makeSlowActive_sStart (s : State) : (makeSlowActive s).sStart = s.sStart := rfl
@[simp] theorem makeSlowActive_fPeriod (s : State) : (makeSlowActive s).fPeriod = s.fPeriod := rfl
@[simp] theorem makeSlowActive_fRlog (s : State) : (makeSlowActive s).fRlog = s.fRlog := rfl
@[simp] theorem makeSlowActive_fPlog (s : State) : (makeSlowActive s).fPlog = s.fPlog := rfl
@[simp] theorem makeSlowActive_fAwait (s : State) : (makeSlowActive s).fAwait = s.fAwait := rfl
@[simp] theorem makeSlowActive_fStart (s : State) : (makeSlowActive s).fStart = s.fStart := rfl
@[simp] theorem makeSlowActive_active (s : State) : (makeSlowActive s).active = .slow := rfl
@[simp] theorem makeSlowActive_wdog (s : State) : (makeSlowActive s).wdog = s.wdog := rfl
@[simp] theorem makeSlowActive_lOvf (s : State) : (makeSlowActive s).lOvf = s.lOvf := rfl
@[simp] theorem makeSlowActive_lLo (s : State) : (makeSlowActive s).lLo = s.lLo := rfl
@[simp] theorem makeSlowActive_nowv (s : State) : (makeSlowActive s).nowv = s.nowv := rfl
@[simp] theorem makeSlowActive_snapN (s : State) : (makeSlowActive s).snapN = s.snapN := rfl
@[simp] theorem makeSlowActive_snapP (s : State) : (makeSlowActive s).snapP = s.snapP := rfl
@[simp] theorem makeSlowActive_fq (s : State) : (makeSlowActive s).fq = s.fq := rfl
@[simp] theorem makeSlowActive_fqu (s : State) : (makeSlowActive s).fqu = s.fqu := rfl
@[simp] theorem makeSlowActive_dout (s : State) : (makeSlowActive s).dout = s.dout := rfl
@[simp] theorem makeSlowActive_stream (s : State) : (makeSlowActive s).stream = s.stream := rfl
@[simp] theorem makeSlowActive_pos (s : State) : (makeSlowActive s).pos = s.pos := rfl
@[simp] theorem makeSlowActive_cfg (s : State) : (makeSlowActive s).cfg = s.cfg := rfl

/-! ### `forceSlow` -/

@[simp] theorem forceSlow_tcnt (s : State) : (forceSlow s).tcnt = s.tcnt := rfl
@[simp] theorem forceSlow_tov (s : State) : (forceSlow s).tov = s.tov := rfl
@[simp] theorem forceSlow_sovf (s : State) : (forceSlow s).sovf = s.sovf := rfl
@[simp] theorem forceSlow_ecnt (s : State) : (forceSlow s).ecnt = s.ecnt := rfl
@[simp] theorem forceSlow_ek (s : State) : (forceSlow s).ek = hardwareLimit 1 := rfl
@[simp] theorem forceSlow_cmf (s : State) : (forceSlow s).cmf = s.cmf := rfl
@[simp] theorem forceSlow_edgf (s : State) : (forceSlow s).edgf = false := rfl
@[simp] theorem forceSlow_edgeIe (s : State) : (forceSlow s).edgeIe = true := rfl
@[simp] theorem forceSlow_gie (s : State) : (forceSlow s).gie = s.gie := rfl
@[simp] theorem forceSlow_xcnt (s : State) : (forceSlow s).xcnt = 0 := rfl
@[simp] theorem forceSlow_xlim (s : State) : (forceSlow s).xlim = softwareLimit 1 := rfl
@[simp] theorem forceSlow_sPeriod (s : State) : (forceSlow s).sPeriod = periodMax := rfl
@[simp] theorem forceSlow_sRlog (s : State) : (forceSlow s).sRlog = .zero := rfl
@[simp] theorem forceSlow_sPlog (s : State) : (forceSlow s).sPlog = s.sPlog := rfl
@[simp] theorem forceSlow_sAwait (s : State) : (forceSlow s).sAwait = true := rfl
@[simp] theorem forceSlow_sStart (s : State) : (forceSlow s).sStart = 0 := rfl
@[simp] theorem forceSlow_fPeriod (s : State) : (forceSlow s).fPeriod = s.fPeriod := rfl
@[simp] theorem forceSlow_fRlog (s : State) : (forceSlow s).fRlog = s.fRlog := rfl
@[simp] theorem forceSlow_fPlog (s : State) : (forceSlow s).fPlog = 1 := rfl
@[simp] theorem forceSlow_fAwait (s : State) : (forceSlow s).fAwait = s.fAwait := rfl
@[simp] theorem forceSlow_fStart (s : State) : (forceSlow s).fStart = s.fStart := rfl
@[simp] theorem forceSlow_active (s : State) : (forceSlow s).active = .slow := rfl
@[simp] theorem forceSlow_wdog (s : State) : (forceSlow s).wdog = s.wdog := rfl
@[simp] theorem forceSlow_lOvf (s : State) : (forceSlow s).lOvf = s.lOvf := rfl
@[simp] theorem forceSlow_lLo (s : State) : (forceSlow s).lLo = s.lLo := rfl
@[simp] theorem forceSlow_nowv (s : State) : (forceSlow s).nowv = s.nowv := rfl
@[simp] theorem forceSlow_snapN (s : State) : (forceSlow s).snapN = s.snapN := rfl
@[simp] theorem forceSlow_snapP (s : State) : (forceSlow s).snapP = s.snapP := rfl
@[simp] theorem forceSlow_fq (s : State) : (forceSlow s).fq = s.fq := rfl
@[simp] theorem forceSlow_fqu (s : State) : (forceSlow s).fqu = s.fqu := rfl
@[simp] theorem forceSlow_dout (s : State) : (forceSlow s).dout = s.dout := rfl
@[simp] theorem forceSlow_stream (s : State) : (forceSlow s).stream = s.stream := rfl
@[simp] theorem forceSlow_pos (s : State) : (forceSlow s).pos = s.pos := rfl
@[simp] theorem forceSlow_cfg (s : State) : (forceSlow s).cfg = s.cfg := rfl

/-! ### `reloadCountdown` -/

@[simp] theorem reloadCountdown_tcnt (s : State) : (reloadCountdown s).tcnt = s.tcnt := rfl
@[simp] theorem reloadCountdown_tov (s : State) : (reloadCountdown s).tov = s.tov := rfl
@[simp] theorem reloadCountdown_sovf (s : State) : (reloadCountdown s).sovf = s.sovf := rfl
@[simp] theorem reloadCountdown_ecnt (s : State) : (reloadCountdown s).ecnt = s.ecnt := rfl
@[simp] theorem reloadCountdown_ek (s : State) : (reloadCountdown s).ek = s.ek := rfl
@[simp] theorem reloadCountdown_cmf (s : State) : (reloadCountdown s).cmf = s.cmf := rfl
@[simp] theorem reloadCountdown_edgf (s : State) : (reloadCountdown s).edgf = s.edgf := rfl
@[simp] theorem reloadCountdown_edgeIe (s : State) : (reloadCountdown s).edgeIe = s.edgeIe := rfl
@[simp] theorem reloadCountdown_gie (s : State) : (reloadCountdown s).gie = s.gie := rfl
@[simp] theorem reloadCountdown_xcnt (s : State) : (reloadCountdown s).xcnt = s.xcnt := rfl
@[simp] theorem reloadCountdown_xlim (s : State) : (reloadCountdown s).xlim = s.xlim := rfl
@[simp] theorem reloadCountdown_sPeriod (s : State) : (reloadCountdown s).sPeriod = s.sPeriod := rfl
@[simp] theorem reloadCountdown_sRlog (s : State) : (reloadCountdown s).sRlog = s.sRlog := rfl
@[simp] theorem reloadCountdown_sPlog (s : State) : (reloadCountdown s).sPlog = s.sPlog := rfl
@[simp] theorem reloadCountdown_sAwait (s : State) : (reloadCountdown s).sAwait = s.sAwait := rfl
@[simp] theorem reloadCountdown_sStart (s : State) : (reloadCountdown s).sStart = s.sStart := rfl
@[simp] theorem reloadCountdown_fPeriod (s : State) : (reloadCountdown s).fPeriod = s.fPeriod := rfl
@[simp] theorem reloadCountdown_fRlog (s : State) : (reloadCountdown s).fRlog = s.fRlog := rfl
@[simp] theorem reloadCountdown_fPlog (s : State) : (reloadCountdown s).fPlog = s.fPlog := rfl
@[simp] theorem reloadCountdown_fAwait (s : State) : (reloadCountdown s).fAwait = s.fAwait := rfl
@[simp] theorem reloadCountdown_fStart (s : State) : (reloadCountdown s).fStart = s.fStart := rfl
@[simp] theorem reloadCountdown_active (s : State) : (reloadCountdown s).active = s.active := rfl
@[simp] theorem reloadCountdown_wdog (s : State) : (reloadCountdown s).wdog = s.cfg.ceiling := rfl
@[simp] theorem reloadCountdown_lOvf (s : State) : (reloadCountdown s).lOvf = s.lOvf := rfl
@[simp] theorem reloadCountdown_lLo (s : State) : (reloadCountdown s).lLo = s.lLo := rfl
@[simp] theorem reloadCountdown_nowv (s : State) : (reloadCountdown s).nowv = s.nowv := rfl
@[simp] theorem reloadCountdown_snapN (s : State) : (reloadCountdown s).snapN = s.snapN := rfl
@[simp] theorem reloadCountdown_snapP (s : State) : (reloadCountdown s).snapP = s.snapP := rfl
@[simp] theorem reloadCountdown_fq (s : State) : (reloadCountdown s).fq = s.fq := rfl
@[simp] theorem reloadCountdown_fqu (s : State) : (reloadCountdown s).fqu = s.fqu := rfl
@[simp] theorem reloadCountdown_dout (s : State) : (reloadCountdown s).dout = s.dout := rfl
@[simp] theorem reloadCountdown_stream (s : State) : (reloadCountdown s).stream = s.stream := rfl
@[simp] theorem reloadCountdown_pos (s : State) : (reloadCountdown s).pos = s.pos := rfl
@[simp] theorem reloadCountdown_cfg (s : State) : (reloadCountdown s).cfg = s.cfg := rfl

/-! ### `closeFastWindow` -/

@[simp] theorem closeFastWindow_tcnt (t : Tick) (s : State) : (closeFastWindow t s).tcnt = s.tcnt := rfl
@[simp] theorem closeFastWindow_tov (t : Tick) (s : State) : (closeFastWindow t s).tov = s.tov := rfl
@[simp] theorem closeFastWindow_sovf (t : Tick) (s : State) : (closeFastWindow t s).sovf = s.sovf := rfl
@[simp] theorem closeFastWindow_ecnt (t : Tick) (s : State) : (closeFastWindow t s).ecnt = s.ecnt := rfl
@[simp] theorem closeFastWindow_ek (t : Tick) (s : State) : (closeFastWindow t s).ek = s.ek := rfl
@[simp] theorem closeFastWindow_cmf (t : Tick) (s : State) : (closeFastWindow t s).cmf = s.cmf := rfl
@[simp] theorem closeFastWindow_edgf (t : Tick) (s : State) : (closeFastWindow t s).edgf = s.edgf := rfl
@[simp] theorem closeFastWindow_edgeIe (t : Tick) (s : State) : (closeFastWindow t s).edgeIe = s.edgeIe := rfl
@[simp] theorem closeFastWindow_gie (t : Tick) (s : State) : (closeFastWindow t s).gie = s.gie := rfl
@[simp] theorem closeFastWindow_xcnt (t : Tick) (s : State) : (closeFastWindow t s).xcnt = s.xcnt := rfl
@[simp] theorem closeFastWindow_xlim (t : Tick) (s : State) : (closeFastWindow t s).xlim = s.xlim := rfl
@[simp] theorem closeFastWindow_sPeriod (t : Tick) (s : State) : (closeFastWindow t s).sPeriod = s.sPeriod := rfl
@[simp] theorem closeFastWindow_sRlog (t : Tick) (s : State) : (closeFastWindow t s).sRlog = s.sRlog := rfl
@[simp] theorem closeFastWindow_sPlog (t : Tick) (s : State) : (closeFastWindow t s).sPlog = s.sPlog := rfl
@[simp] theorem closeFastWindow_sAwait (t : Tick) (s : State) : (closeFastWindow t s).sAwait = s.sAwait := rfl
@[simp] theorem closeFastWindow_sStart (t : Tick) (s : State) : (closeFastWindow t s).sStart = s.sStart := rfl
@[simp] theorem closeFastWindow_fPeriod (t : Tick) (s : State) : (closeFastWindow t s).fPeriod = elapsedTicks t s.fStart := rfl
@[simp] theorem closeFastWindow_fRlog (t : Tick) (s : State) : (closeFastWindow t s).fRlog = s.fPlog := rfl
@[simp] theorem closeFastWindow_fPlog (t : Tick) (s : State) : (closeFastWindow t s).fPlog = s.fPlog := rfl
@[simp] theorem closeFastWindow_fAwait (t : Tick) (s : State) : (closeFastWindow t s).fAwait = s.fAwait := rfl
@[simp] theorem closeFastWindow_fStart (t : Tick) (s : State) : (closeFastWindow t s).fStart = t := rfl
@[simp] theorem closeFastWindow_active (t : Tick) (s : State) : (closeFastWindow t s).active = s.active := rfl
@[simp] theorem closeFastWindow_wdog (t : Tick) (s : State) : (closeFastWindow t s).wdog = s.wdog := rfl
@[simp] theorem closeFastWindow_lOvf (t : Tick) (s : State) : (closeFastWindow t s).lOvf = s.lOvf := rfl
@[simp] theorem closeFastWindow_lLo (t : Tick) (s : State) : (closeFastWindow t s).lLo = s.lLo := rfl
@[simp] theorem closeFastWindow_nowv (t : Tick) (s : State) : (closeFastWindow t s).nowv = s.nowv := rfl
@[simp] theorem closeFastWindow_snapN (t : Tick) (s : State) : (closeFastWindow t s).snapN = s.snapN := rfl
@[simp] theorem closeFastWindow_snapP (t : Tick) (s : State) : (closeFastWindow t s).snapP = s.snapP := rfl
@[simp] theorem closeFastWindow_fq (t : Tick) (s : State) : (closeFastWindow t s).fq = s.fq := rfl
@[simp] theorem closeFastWindow_fqu (t : Tick) (s : State) : (closeFastWindow t s).fqu = s.fqu := rfl
@[simp] theorem closeFastWindow_dout (t : Tick) (s : State) : (closeFastWindow t s).dout = s.dout := rfl
@[simp] theorem closeFastWindow_stream (t : Tick) (s : State) : (closeFastWindow t s).stream = s.stream := rfl
@[simp] theorem closeFastWindow_pos (t : Tick) (s : State) : (closeFastWindow t s).pos = s.pos := rfl
@[simp] theorem closeFastWindow_cfg (t : Tick) (s : State) : (closeFastWindow t s).cfg = s.cfg := rfl

/-! ### `escalate` -/

@[simp] theorem escalate_tcnt (t : Tick) (s : State) : (escalate t s).tcnt = s.tcnt := rfl
@[simp] theorem escalate_tov (t : Tick) (s : State) : (escalate t s).tov = s.tov := rfl
@[simp] theorem escalate_sovf (t : Tick) (s : State) : (escalate t s).sovf = s.sovf := rfl
@[simp] theorem escalate_ecnt (t : Tick) (s : State) : (escalate t s).ecnt = 0 := rfl
@[simp] theorem escalate_ek (t : Tick) (s : State) : (escalate t s).ek = hardwareLimit 1 := rfl
@[simp] theorem escalate_cmf (t : Tick) (s : State) : (escalate t s).cmf = s.cmf := rfl
@[simp] theorem escalate_edgf (t : Tick) (s : State) : (escalate t s).edgf = false := rfl
@[simp] theorem escalate_edgeIe (t : Tick) (s : State) : (escalate t s).edgeIe = false := rfl
@[simp] theorem escalate_gie (t : Tick) (s : State) : (escalate t s).gie = s.gie := rfl
@[simp] theorem escalate_xcnt (t : Tick) (s : State) : (escalate t s).xcnt = 0 := rfl
@[simp] theorem escalate_xlim (t : Tick) (s : State) : (escalate t s).xlim = softwareLimit 1 := rfl
@[simp] theorem escalate_sPeriod (t : Tick) (s : State) : (escalate t s).sPeriod = s.sPeriod := rfl
@[simp] theorem escalate_sRlog (t : Tick) (s : State) : (escalate t s).sRlog = s.sRlog := rfl
@[simp] theorem escalate_sPlog (t : Tick) (s : State) : (escalate t s).sPlog = s.sPlog := rfl
@[simp] theorem escalate_sAwait (t : Tick) (s : State) : (escalate t s).sAwait = s.sAwait := rfl
@[simp] theorem escalate_sStart (t : Tick) (s : State) : (escalate t s).sStart = s.sStart := rfl
@[simp] theorem escalate_fPeriod (t : Tick) (s : State) : (escalate t s).fPeriod = s.fPeriod := rfl
@[simp] theorem escalate_fRlog (t : Tick) (s : State) : (escalate t s).fRlog = s.fRlog := rfl
@[simp] theorem escalate_fPlog (t : Tick) (s : State) : (escalate t s).fPlog = 1 := rfl
@[simp] theorem escalate_fAwait (t : Tick) (s : State) : (escalate t s).fAwait = true := rfl
@[simp] theorem escalate_fStart (t : Tick) (s : State) : (escalate t s).fStart = t := rfl
@[simp] theorem escalate_active (t : Tick) (s : State) : (escalate t s).active = .fast := rfl
@[simp] theorem escalate_wdog (t : Tick) (s : State) : (escalate t s).wdog = s.wdog := rfl
@[simp] theorem escalate_lOvf (t : Tick) (s : State) : (escalate t s).lOvf = s.lOvf := rfl
@[simp] theorem escalate_lLo (t : Tick) (s : State) : (escalate t s).lLo = s.lLo := rfl
@[simp] theorem escalate_nowv (t : Tick) (s : State) : (escalate t s).nowv = s.nowv := rfl
@[simp] theorem escalate_snapN (t : Tick) (s : State) : (escalate t s).snapN = s.snapN := rfl
@[simp] theorem escalate_snapP (t : Tick) (s : State) : (escalate t s).snapP = s.snapP := rfl
@[simp] theorem escalate_fq (t : Tick) (s : State) : (escalate t s).fq = s.fq := rfl
@[simp] theorem escalate_fqu (t : Tick) (s : State) : (escalate t s).fqu = s.fqu := rfl
@[simp] theorem escalate_dout (t : Tick) (s : State) : (escalate t s).dout = s.dout := rfl
@[simp] theorem escalate_stream (t : Tick) (s : State) : (escalate t s).stream = s.stream := rfl
@[simp] theorem escalate_pos (t : Tick) (s : State) : (escalate t s).pos = s.pos := rfl
@[simp] theorem escalate_cfg (t : Tick) (s : State) : (escalate t s).cfg = s.cfg := rfl

/-! ### `deescalate` -/

@[simp] theorem deescalate_tcnt (t : Tick) (p : Nat) (s : State) : (deescalate t p s).tcnt = s.tcnt := rfl
@[simp] theorem deescalate_tov (t : Tick) (p : Nat) (s : State) : (deescalate t p s).tov = s.tov := rfl
@[simp] theorem deescalate_sovf (t : Tick) (p : Nat) (s : State) : (deescalate t p s).sovf = s.sovf := rfl
@[simp] theorem deescalate_ecnt (t : Tick) (p : Nat) (s : State) : (deescalate t p s).ecnt = s.ecnt := rfl
@[simp] theorem deescalate_ek (t : Tick) (p : Nat) (s : State) : (deescalate t p s).ek = s.ek := rfl
@[simp] theorem deescalate_cmf (t : Tick) (p : Nat) (s : State) : (deescalate t p s).cmf = s.cmf := rfl
@[simp] theorem deescalate_edgf (t : Tick) (p : Nat) (s : State) : (deescalate t p s).edgf = false := rfl
@[simp] theorem deescalate_edgeIe (t : Tick) (p : Nat) (s : State) : (deescalate t p s).edgeIe = true := rfl
@[simp] theorem deescalate_gie (t : Tick) (p : Nat) (s : State) : (deescalate t p s).gie = s.gie := rfl
@[simp] theorem deescalate_xcnt (t : Tick) (p : Nat) (s : State) : (deescalate t p s).xcnt = s.xcnt := rfl
@[simp] theorem deescalate_xlim (t : Tick) (p : Nat) (s : State) : (deescalate t p s).xlim = s.xlim := rfl
@[simp] theorem deescalate_sPeriod (t : Tick) (p : Nat) (s : State) : (deescalate t p s).sPeriod = BitVec.ofNat 32 (p / 2) := rfl
@[simp] theorem deescalate_sRlog (t : Tick) (p : Nat) (s : State) : (deescalate t p s).sRlog = s.sRlog := rfl
@[simp] theorem deescalate_sPlog (t : Tick) (p : Nat) (s : State) : (deescalate t p s).sPlog = s.sPlog := rfl
@[simp] theorem deescalate_sAwait (t : Tick) (p : Nat) (s : State) : (deescalate t p s).sAwait = true := rfl
@[simp] theorem deescalate_sStart (t : Tick) (p : Nat) (s : State) : (deescalate t p s).sStart = t := rfl
@[simp] theorem deescalate_fPeriod (t : Tick) (p : Nat) (s : State) : (deescalate t p s).fPeriod = s.fPeriod := rfl
@[simp] theorem deescalate_fRlog (t : Tick) (p : Nat) (s : State) : (deescalate t p s).fRlog = s.fRlog := rfl
@[simp] theorem deescalate_fPlog (t : Tick) (p : Nat) (s : State) : (deescalate t p s).fPlog = s.fPlog := rfl
@[simp] theorem deescalate_fAwait (t : Tick) (p : Nat) (s : State) : (deescalate t p s).fAwait = s.fAwait := rfl
@[simp] theorem deescalate_fStart (t : Tick) (p : Nat) (s : State) : (deescalate t p s).fStart = s.fStart := rfl
@[simp] theorem deescalate_active (t : Tick) (p : Nat) (s : State) : (deescalate t p s).active = .slow := rfl
@[simp] theorem deescalate_wdog (t : Tick) (p : Nat) (s : State) : (deescalate t p s).wdog = s.wdog := rfl
@[simp] theorem deescalate_lOvf (t : Tick) (p : Nat) (s : State) : (deescalate t p s).lOvf = s.lOvf := rfl
@[simp] theorem deescalate_lLo (t : Tick) (p : Nat) (s : State) : (deescalate t p s).lLo = s.lLo := rfl
@[simp] theorem deescalate_nowv (t : Tick) (p : Nat) (s : State) : (deescalate t p s).nowv = s.nowv := rfl
@[simp] theorem deescalate_snapN (t : Tick) (p : Nat) (s : State) : (deescalate t p s).snapN = s.snapN := rfl
@[simp] theorem deescalate_snapP (t : Tick) (p : Nat) (s : State) : (deescalate t p s).snapP = s.snapP := rfl
@[simp] theorem deescalate_fq (t : Tick) (p : Nat) (s : State) : (deescalate t p s).fq = s.fq := rfl
@[simp] theorem deescalate_fqu (t : Tick) (p : Nat) (s : State) : (deescalate t p s).fqu = s.fqu := rfl
@[simp] theorem deescalate_dout (t : Tick) (p : Nat) (s : State) : (deescalate t p s).dout = s.dout := rfl
@[simp] theorem deescalate_stream (t : Tick) (p : Nat) (s : State) : (deescalate t p s).stream = s.stream := rfl
@[simp] theorem deescalate_pos (t : Tick) (p : Nat) (s : State) : (deescalate t p s).pos = s.pos := rfl
@[simp] theorem deescalate_cfg (t : Tick) (p : Nat) (s : State) : (deescalate t p s).cfg = s.cfg := rfl

/-! ### `advancePos` -/

@[simp] theorem advancePos_tcnt (s : State) : (advancePos s).tcnt = s.tcnt := rfl
@[simp] theorem advancePos_tov (s : State) : (advancePos s).tov = s.tov := rfl
@[simp] theorem advancePos_sovf (s : State) : (advancePos s).sovf = s.sovf := rfl
@[simp] theorem advancePos_ecnt (s : State) : (advancePos s).ecnt = s.ecnt := rfl
@[simp] theorem advancePos_ek (s : State) : (advancePos s).ek = s.ek := rfl
@[simp] theorem advancePos_cmf (s : State) : (advancePos s).cmf = s.cmf := rfl
@[simp] theorem advancePos_edgf (s : State) : (advancePos s).edgf = s.edgf := rfl
@[simp] theorem advancePos_edgeIe (s : State) : (advancePos s).edgeIe = s.edgeIe := rfl
@[simp] theorem advancePos_gie (s : State) : (advancePos s).gie = s.gie := rfl
@[simp] theorem advancePos_xcnt (s : State) : (advancePos s).xcnt = s.xcnt := rfl
@[simp] theorem advancePos_xlim (s : State) : (advancePos s).xlim = s.xlim := rfl
@[simp] theorem advancePos_sPeriod (s : State) : (advancePos s).sPeriod = s.sPeriod := rfl
@[simp] theorem advancePos_sRlog (s : State) : (advancePos s).sRlog = s.sRlog := rfl
@[simp] theorem advancePos_sPlog (s : State) : (advancePos s).sPlog = s.sPlog := rfl
@[simp] theorem advancePos_sAwait (s : State) : (advancePos s).sAwait = s.sAwait := rfl
@[simp] theorem advancePos_sStart (s : State) : (advancePos s).sStart = s.sStart := rfl
@[simp] theorem advancePos_fPeriod (s : State) : (advancePos s).fPeriod = s.fPeriod := rfl
@[simp] theorem advancePos_fRlog (s : State) : (advancePos s).fRlog = s.fRlog := rfl
@[simp] theorem advancePos_fPlog (s : State) : (advancePos s).fPlog = s.fPlog := rfl
@[simp] theorem advancePos_fAwait (s : State) : (advancePos s).fAwait = s.fAwait := rfl
@[simp] theorem advancePos_fStart (s : State) : (advancePos s).fStart = s.fStart := rfl
@[simp] theorem advancePos_active (s : State) : (advancePos s).active = s.active := rfl
@[simp] theorem advancePos_wdog (s : State) : (advancePos s).wdog = s.wdog := rfl
@[simp] theorem advancePos_lOvf (s : State) : (advancePos s).lOvf = s.lOvf := rfl
@[simp] theorem advancePos_lLo (s : State) : (advancePos s).lLo = s.lLo := rfl
@[simp] theorem advancePos_nowv (s : State) : (advancePos s).nowv = s.nowv := rfl
@[simp] theorem advancePos_snapN (s : State) : (advancePos s).snapN = s.snapN := rfl
@[simp] theorem advancePos_snapP (s : State) : (advancePos s).snapP = s.snapP := rfl
@[simp] theorem advancePos_fq (s : State) : (advancePos s).fq = s.fq := rfl
@[simp] theorem advancePos_fqu (s : State) : (advancePos s).fqu = s.fqu := rfl
@[simp] theorem advancePos_dout (s : State) : (advancePos s).dout = s.dout := rfl
@[simp] theorem advancePos_stream (s : State) : (advancePos s).stream = s.stream := rfl
@[simp] theorem advancePos_pos (s : State) : (advancePos s).pos = s.pos + 1 := rfl
@[simp] theorem advancePos_cfg (s : State) : (advancePos s).cfg = s.cfg := rfl

end Sys2Proof.Machine
end

