-- ==== Sys2Proof/Laws/Ops.lean ====
section
/-!
SUPPORT. For each shared operation, what it can do, said once: the guard, the tick read, the
counters, the interrupt selection, a step.
-/
namespace Sys2Proof.Machine

/-! ### The guard of the seven commands -/

theorem whenSuppressed_of_suppressed {s : State} (h : s.gie = false) (t : State) :
    whenSuppressed s t = .next t := by simp [whenSuppressed, h]

theorem whenSuppressed_of_enabled {s : State} (h : s.gie = true) (t : State) :
    whenSuppressed s t = .fault .flt2UnprotectedAccess := by simp [whenSuppressed, h]

theorem whenSuppressed_next_iff {s t u : State} :
    whenSuppressed s t = .next u ↔ s.gie = false ∧ t = u := by
  cases h : s.gie <;> simp [whenSuppressed, h]

/-! ### The tick clock -/

@[simp] theorem overflowCorrection_toNat (thr : Nat) (tov : Bool) (lo : Narrow) :
    (overflowCorrection thr tov lo).toNat = if tov = true ∧ lo.toNat < thr then 1 else 0 := by
  unfold overflowCorrection overflowOccurred
  cases tov <;> by_cases h : lo.toNat < thr <;> simp [h]

theorem append_toNat (hi lo : Narrow) : (hi ++ lo : Tick).toNat = hi.toNat * 2 ^ 16 + lo.toNat := by
  have h := lo.isLt
  rw [BitVec.toNat_append, Nat.shiftLeft_eq, ← Nat.shiftLeft_eq, ← Nat.shiftLeft_add_eq_or_of_lt h,
    Nat.shiftLeft_eq]

theorem tickValue_toNat (thr : Nat) (ovf lo : Narrow) (tov : Bool) :
    (tickValue thr ovf lo tov).toNat =
      (ovf.toNat + if tov = true ∧ lo.toNat < thr then 1 else 0) % 2 ^ 16 * 2 ^ 16 + lo.toNat := by
  rw [tickValue, append_toNat, BitVec.toNat_add, overflowCorrection_toNat]

theorem elapsedTicks_toNat (now start : Tick) :
    (elapsedTicks now start).toNat = (2 ^ 32 - start.toNat + now.toNat) % 2 ^ 32 :=
  BitVec.toNat_sub ..

theorem advanceTicks_tcnt_toNat (d : BitVec 32) (s : State) :
    (advanceTicks d s).tcnt.toNat = (s.tcnt.toNat + d.toNat) % 2 ^ 16 := by simp

theorem tovAfterTicks_eq (tov : Bool) (tcnt : Narrow) (d : BitVec 32) :
    tovAfterTicks tov tcnt d = true ↔ tov = true ∨ 2 ^ 16 ≤ tcnt.toNat + d.toNat := by
  have h : (tickWraps tcnt d = true) ↔ 2 ^ 16 ≤ tcnt.toNat + d.toNat := by
    rw [tickWraps, nw, decide_eq_true_iff]
    omega
  rw [tovAfterTicks, Bool.or_eq_true, h]

/-- `now()` depends only on `SOVF`, `TCNT`, `TOV` and the threshold. -/
theorem nowTick_congr {s t : State} (h1 : t.sovf = s.sovf) (h2 : t.tcnt = s.tcnt)
    (h3 : t.tov = s.tov) (h4 : t.cfg = s.cfg) : nowTick t = nowTick s := by
  simp [nowTick, h1, h2, h3, h4]

/-! ### Event hardware -/

theorem countEvent_of_match {s : State} (h : 2 ^ s.ek.toNat ≤ s.ecnt.toNat + 1) :
    countEvent s = { s with ecnt := 0, cmf := true } := by
  simp [countEvent, compareMatch, h]

theorem countEvent_of_no_match {s : State} (h : ¬ 2 ^ s.ek.toNat ≤ s.ecnt.toNat + 1) :
    countEvent s = { s with ecnt := s.ecnt + 1 } := by
  simp [countEvent, compareMatch, h]

theorem hardwareLimit_toNat (e : Nat) : (hardwareLimit e).toNat = min e 16 := by
  simp only [hardwareLimit, hwn, BitVec.toNat_ofNat]
  omega

theorem softwareLimit_toNat {e : Nat} (h : e ≤ 20) : (softwareLimit e).toNat = 2 ^ (e - 16) := by
  interval_cases e <;> decide

@[simp] theorem hardwareLimit_one : hardwareLimit 1 = 1 := by decide

@[simp] theorem softwareLimit_one : softwareLimit 1 = 1 := by decide

@[simp] theorem hardwiredWrite_eq (r : HardwiredZero) (v : Exponent) :
    hardwiredWrite r v = .zero := rfl

@[simp] theorem hardwiredValue_eq (r : HardwiredZero) : hardwiredValue r = 0 := by cases r; rfl

/-- All that `FORCE_SLOW()` writes (R172). -/
theorem forceSlow_eq (s : State) :
    forceSlow s = { s with
      sPeriod := periodMax, sRlog := .zero, sAwait := true, sStart := 0
      fPlog := 1, ek := 1, xlim := 1, xcnt := 0, active := .slow, edgeIe := true, edgf := false } :=
  rfl

/-- All that the emergency escalation writes (R133 step 5). -/
theorem escalate_eq (t : Tick) (s : State) :
    escalate t s = { s with
      fPlog := 1, fAwait := true, fStart := t, ek := 1, xlim := 1, xcnt := 0, ecnt := 0
      active := .fast, edgeIe := false, edgf := false } :=
  rfl

/-- All that de-escalation writes (R149 step 6). -/
theorem deescalate_eq (t : Tick) (p : Nat) (s : State) :
    deescalate t p s = { s with
      sStart := t, sPeriod := BitVec.ofNat 32 (p / 2), sAwait := true
      active := .slow, edgeIe := true, edgf := false } :=
  rfl

/-! ### Watchdog -/

theorem decrementCountdown_toInt (w : Countdown) :
    (decrementCountdown w).toInt = max (w.toInt - 1) (-128) := by
  revert w; decide

/-! ### Interrupts -/

theorem selectInterrupt_suppressed {s : State} (h : s.gie = false) : selectInterrupt s = none := by
  simp [selectInterrupt, h]

theorem selectInterrupt_edgeDetect_iff {s : State} :
    selectInterrupt s = some .edgeDetect ↔ s.gie = true ∧ s.edgf = true ∧ s.edgeIe = true := by
  cases h1 : s.gie <;> cases h2 : s.edgf <;> cases h3 : s.edgeIe <;> cases h4 : s.cmf <;>
    cases h5 : s.tov <;> simp [selectInterrupt, h1, h2, h3, h4, h5]

theorem selectInterrupt_compareMatch_iff {s : State} :
    selectInterrupt s = some .compareMatch ↔
      s.gie = true ∧ (s.edgf && s.edgeIe) = false ∧ s.cmf = true := by
  cases h1 : s.gie <;> cases h2 : s.edgf <;> cases h3 : s.edgeIe <;> cases h4 : s.cmf <;>
    cases h5 : s.tov <;> simp [selectInterrupt, h1, h2, h3, h4, h5]

theorem selectInterrupt_clockOverflow_iff {s : State} :
    selectInterrupt s = some .clockOverflow ↔
      s.gie = true ∧ (s.edgf && s.edgeIe) = false ∧ s.cmf = false ∧ s.tov = true := by
  cases h1 : s.gie <;> cases h2 : s.edgf <;> cases h3 : s.edgeIe <;> cases h4 : s.cmf <;>
    cases h5 : s.tov <;> simp [selectInterrupt, h1, h2, h3, h4, h5]

/-- What an `IRQ` can do: one of the three handlers, after its pending bit is cleared, or nothing. -/
theorem execIrq_cases (s : State) :
    (selectInterrupt s = some .edgeDetect ∧
        execIrq s = .next (isrEdge { s with edgf := false })) ∨
      (selectInterrupt s = some .compareMatch ∧
        execIrq s = .next (isrCmp { s with cmf := false })) ∨
      (selectInterrupt s = some .clockOverflow ∧
        execIrq s = .next (isrOvf { s with tov := false })) ∨
      (selectInterrupt s = none ∧ execIrq s = .next s) := by
  cases h : selectInterrupt s with
  | none => simp [execIrq, h]
  | some src =>
    cases src <;> simp [execIrq, h, takeInterrupt, leaveInterrupt, enterInterrupt, handlerBody]

/-- What `ISR_EDGE` can do (R133). -/
theorem isrEdge_cases (s : State) :
    (s.sAwait = true ∧ isrEdge s = { s with sStart := nowTick s, sAwait := false }) ∨
      (s.sAwait = false ∧ s.cfg.esc ≤ slowPeriod s ∧
        isrEdge s = { s with
          sPeriod := elapsedTicks (nowTick s) s.sStart, sStart := nowTick s, sRlog := .zero }) ∨
      (s.sAwait = false ∧ slowPeriod s < s.cfg.esc ∧
        isrEdge s = escalate (nowTick s) { s with
          sPeriod := elapsedTicks (nowTick s) s.sStart, sStart := nowTick s, sRlog := .zero }) := by
  cases h : s.sAwait
  · right
    by_cases hp : slowPeriod s < s.cfg.esc
    · exact .inr ⟨rfl, hp, by simp only [isrEdge, h, closeSlowWindow]; exact if_pos hp⟩
    · exact .inl ⟨rfl, Nat.not_lt.1 hp, by simp only [isrEdge, h, closeSlowWindow]; exact if_neg hp⟩
  · exact .inl ⟨rfl, by simp [isrEdge, h]⟩

/-- What `ISR_CMP` can do (R149): a non-firing run, the first firing run of an epoch, a firing run
with a period. -/
theorem isrCmp_cases (s : State) :
    (fires s = false ∧ isrCmp s = { s with wdog := s.cfg.ceiling, xcnt := s.xcnt + 1 }) ∨
      (fires s = true ∧ s.fAwait = true ∧
        isrCmp s = { s with
          wdog := s.cfg.ceiling, xcnt := 0, fStart := nowTick s, fAwait := false }) ∨
      (fires s = true ∧ s.fAwait = false ∧
        isrCmp s =
          fireWithPeriod (nowTick s) { s with wdog := s.cfg.ceiling, xcnt := 0 }) := by
  by_cases h : s.xcnt + 1 < s.xlim
  · exact .inl ⟨by simp only [fires, h, decide_true, Bool.not_true], if_pos h⟩
  · have hf : fires s = true := by simp only [fires, h, decide_false, Bool.not_false]
    have hc : isrCmp s = fire { s with wdog := s.cfg.ceiling, xcnt := 0 } := if_neg h
    right
    cases ha : s.fAwait
    · exact .inr ⟨hf, rfl, by rw [hc]; simp only [fire, ha]; rfl⟩
    · exact .inl ⟨hf, rfl, by rw [hc]; simp only [fire, ha]; rfl⟩

/-! ### The stream -/

theorem fetchWord_withFetchWord (s : State) (nbits w : Nat) :
    fetchWord (s.withFetchWord nbits w) = some (wordOfTableBits nbits w) := by
  have hlen : (s.stream.take s.pos ++
      List.replicate (s.pos - s.stream.length) (encode .nop)).length = s.pos := by
    simp; omega
  simp only [fetchWord, State.withFetchWord, placeWord]
  rw [List.getElem?_append_right (by omega), hlen]
  simp

/-- What a step that answers a next state did: it fetched a word, decoded it, executed the command
and advanced the position. -/
theorem step_next_iff {s t : State} :
    step s = .next t ↔
      ∃ w i u, fetchWord s = some w ∧ decode w = .ok i ∧ exec i s = .next u ∧ t = advancePos u := by
  unfold step
  cases hf : fetchWord s with
  | none => simp
  | some w =>
    cases hd : decode w with
    | error e => simp [hd]
    | ok i =>
      cases he : exec i s <;> simp [hd, he, eq_comm]

end Sys2Proof.Machine
end

