-- ==== Sys2Proof/Laws/PerInstr.lean ====
section
/-!
SUPPORT. Facts proved command by command about the encoding (spec/30_encoding.md R90, R94, R95):
the word of a command has an opcode of the table, and the fields its format does not use are zero.
-/
namespace Sys2Proof

namespace Laws.EncodedFields

/-- The command's word has a known opcode, and no unused field of it is set. -/
def Statement (i : Instr) : Prop :=
  ∃ f, formatOf (opField (encode i)) = some f ∧ unusedFieldError f (encode i) = none

theorem nop : Statement .nop := ⟨.z, by decide, by decide⟩
theorem tick (d : BitVec 32) : Statement (.tick d) :=
  ⟨.i, by simp [encode, formatOf], by simp [encode, unusedFieldError, Format.usesA, Format.usesImm]⟩
theorem edge : Statement .edge := ⟨.z, by decide, by decide⟩
theorem irq : Statement .irq := ⟨.z, by decide, by decide⟩
theorem cli : Statement .cli := ⟨.z, by decide, by decide⟩
theorem sei : Statement .sei := ⟨.z, by decide, by decide⟩
theorem nowa : Statement .nowa := ⟨.z, by decide, by decide⟩
theorem nowb : Statement .nowb := ⟨.z, by decide, by decide⟩
theorem nowc : Statement .nowc := ⟨.z, by decide, by decide⟩
theorem now : Statement .now := ⟨.z, by decide, by decide⟩
theorem snap : Statement .snap := ⟨.z, by decide, by decide⟩
theorem wdpoll : Statement .wdpoll := ⟨.z, by decide, by decide⟩
theorem force : Statement .force := ⟨.z, by decide, by decide⟩
theorem freq (n : Exponent) (ticks : BitVec 32) : Statement (.freq n ticks) :=
  ⟨.ai, by simp [encode, formatOf], by simp [encode, unusedFieldError, Format.usesA, Format.usesImm]⟩
theorem freqs : Statement .freqs := ⟨.z, by decide, by decide⟩
theorem rd (r : Reg) : Statement (.rd r) :=
  ⟨.a, by simp [encode, formatOf], by simp [encode, unusedFieldError, Format.usesA, Format.usesImm]⟩
theorem reset : Statement .reset := ⟨.z, by decide, by decide⟩

end Laws.EncodedFields

end Sys2Proof
end

