-- ==== Sys2Proof/Tests/Slice0.lean ====
section
/-!
SUPPORT. Tests with expected results from the spec's own words and vectors (spec/30_encoding.md,
spec/95_test_vectors.md), and for every statement with hypotheses a named state and operands that
meet them.
-/
namespace Sys2Proof.Tests

open Sys2Proof Sys2Proof.Machine

/-! ### Helpers -/

/-- The command answers exactly this next state. -/
def goesTo (r : Result) (t : State) : Bool :=
  match r with
  | .next u => decide (u = t)
  | .fault _ => false
  | .refused _ => false

/-- The command answers a next state. -/
def completes (r : Result) : Bool :=
  match r with
  | .next _ => true
  | .fault _ => false
  | .refused _ => false

/-- The command answers a next state with this property. -/
def leaves (r : Result) (p : State → Bool) : Bool :=
  match r with
  | .next u => p u
  | .fault _ => false
  | .refused _ => false

/-- The command faults with `FLT2`. -/
def faults (r : Result) : Bool :=
  match r with
  | .next _ => false
  | .fault .flt2UnprotectedAccess => true
  | .refused _ => false

/-- The step is refused with this `FLT1`. -/
def refuses (why : Illegal) (r : Result) : Bool :=
  match r with
  | .refused (.flt1IllegalCommand e) => decide (e = why)
  | .next _ => false
  | .fault _ => false
  | .refused _ => false

/-- The word decodes to this command. -/
def decodesTo (w : CommandWord) (i : Instr) : Bool :=
  match decode w with
  | .ok j => decide (j = i)
  | .error _ => false

/-- The word is illegal for this reason. -/
def illegalAs (why : Illegal) (w : CommandWord) : Bool :=
  match decode w with
  | .ok _ => false
  | .error e => decide (e = why)

/-- The reset state with interrupts enabled. -/
def enabled : State := { State.reset with gie := true }

/-- The before-state of the `ISR_EDGE` vectors (spec/95_test_vectors.md section 4). -/
def edgeState : State := { enabled with edgf := true }

/-- The before-state of the `ISR_CMP` vectors (spec/95_test_vectors.md section 5), with exponent
`e` programmed. -/
def cmpState (e : Nat) : State :=
  setFastExponent e
    { enabled with cmf := true, fAwait := false, active := .fast, edgeIe := false }

/-- The reset state with one word as its stream. -/
def withWord (w : CommandWord) : State := { State.reset with stream := [w] }

/-! ### Well-formedness -/

/-- R93: an exponent above 20 is refused, 20 is not. -/
theorem test_wellFormed_exponent :
    (Instr.freq 21 1).wellFormed = false ∧ (Instr.freq 20 1).wellFormed = true := by decide

/-! ### Words, written out from R92 and the example table of R97 -/

theorem test_decode_nop : decodesTo 0x0000000000000000 .nop = true := by decide
theorem test_decode_tick : decodesTo 0x01000000000003E8 (.tick 1000) = true := by decide
theorem test_decode_edge : decodesTo 0x0200000000000000 .edge = true := by decide
theorem test_decode_irq : decodesTo 0x0800000000000000 .irq = true := by decide
theorem test_decode_cli : decodesTo 0x1000000000000000 .cli = true := by decide
theorem test_decode_sei : decodesTo 0x1100000000000000 .sei = true := by decide
theorem test_decode_nowa : decodesTo 0x1800000000000000 .nowa = true := by decide
theorem test_decode_nowb : decodesTo 0x1900000000000000 .nowb = true := by decide
theorem test_decode_nowc : decodesTo 0x1A00000000000000 .nowc = true := by decide
theorem test_decode_now : decodesTo 0x1B00000000000000 .now = true := by decide
theorem test_decode_snap : decodesTo 0x2000000000000000 .snap = true := by decide
theorem test_decode_wdpoll : decodesTo 0x2100000000000000 .wdpoll = true := by decide
theorem test_decode_force : decodesTo 0x2200000000000000 .force = true := by decide
theorem test_decode_freq : decodesTo 0x280A000000003E80 (.freq 10 16000) = true := by decide
theorem test_decode_freqs : decodesTo 0x2900000000000000 .freqs = true := by decide
theorem test_decode_rd : decodesTo 0x302A000000000000 (.rd .nowv) = true := by decide
theorem test_decode_reset : decodesTo 0x3F00000000000000 .reset = true := by decide

/-- V-HST-7 to V-HST-10: `RD` words of other index groups. -/
theorem test_decode_rd_groups :
    decodesTo 0x3010000000000000 (.rd .sPeriod) = true ∧
      decodesTo 0x3021000000000000 (.rd .wdog) = true ∧
      decodesTo 0x302D000000000000 (.rd .fq) = true ∧
      decodesTo 0x302F000000000000 (.rd .dout) = true := by decide

/-- V-FRQ-20, V-HST-11 to V-HST-17: the illegal words. -/
theorem test_decode_illegal :
    illegalAs .exponentTooLarge 0x2815000000000001 = true ∧
      illegalAs .unimplementedRegister 0x300B000000000000 = true ∧
      illegalAs .unknownOpcode 0x0300000000000000 = true ∧
      illegalAs .zNotZero 0x0200000100000000 = true ∧
      illegalAs .aNotZero 0x0201000000000000 = true ∧
      illegalAs .immNotZero 0x1B00000000000001 = true ∧
      illegalAs .immNotZero 0x3010000000000001 = true ∧
      illegalAs .unknownOpcode 0xFF00000000000000 = true := by decide

/-- R72: `FREQ 10, 16000` stored, the opcode byte first. -/
theorem test_stored_bytes :
    encodeBytes (.freq 10 16000) = [0x28, 0x0A, 0x00, 0x00, 0x00, 0x00, 0x3E, 0x80] := by decide

/-- The host's word form of `FREQ 10, 16000` and of an illegal word. -/
theorem test_decodeTableWord :
    decodeTableWord 64 0x280A000000003E80 = some (.freq 10 16000) ∧
      decodeTableWord 64 0x0300000000000000 = none := by decide

/-- R97: example lines, a comment, a name and an index for one register, a number in base 16. -/
theorem test_assembleLine :
    assembleLine "TICK 1000".toList = some [.tick 1000] ∧
      assembleLine "FREQ 10, 16000 ; S1".toList = some [.freq 10 16000] ∧
      assembleLine "RD NOWV".toList = some [.rd .nowv] ∧
      assembleLine "RD 0x2A".toList = some [.rd .nowv] ∧
      assembleLine "TICK 0x3E8".toList = some [.tick 1000] ∧
      assembleLine "FREQ 21, 1".toList = none := by decide

/-- R98: the expansions of `TEDGE` and `POLL`. -/
theorem test_assembleLine_pseudo :
    assembleLine "TEDGE 50".toList = some [.tick 50, .edge, .irq, .irq, .irq] ∧
      assembleLine "POLL".toList = some [.cli, .snap, .wdpoll, .sei, .freqs] := by decide

/-! ### One step -/

/-- R91: a step runs the word, from reset with one word loaded, and moves on. -/
theorem test_step :
    goesTo (step (State.reset.withFetchWord 64 0x01000000000003E8))
      { State.reset.withFetchWord 64 0x01000000000003E8 with tcnt := 1000, pos := 1 } = true := by
  decide

/-- V-HST-12: the step at an illegal word is refused. -/
theorem test_step_illegal :
    refuses .unknownOpcode (step (withWord 0x0300000000000000)) = true := by decide

/-- V-TCK-7. -/
theorem test_tick_wraps :
    goesTo (exec (.tick 20000) { State.reset with tcnt := 60550 })
      { State.reset with tcnt := 15014, tov := true } = true := by decide

/-- V-TCK-9. -/
theorem test_tick_longest :
    goesTo (exec (.tick 4294967295) State.reset)
      { State.reset with tcnt := 0xFFFF, tov := true } = true := by decide

/-- V-EVT-2. -/
theorem test_edge_compare_match :
    goesTo (exec .edge { State.reset with ecnt := 1 })
      { State.reset with ecnt := 0, cmf := true, edgf := true } = true := by decide

/-- V-EVT-3. -/
theorem test_edge_counts :
    goesTo (exec .edge { State.reset with ek := 10, ecnt := 1022, edgeIe := false })
      { State.reset with ek := 10, ecnt := 1023, edgeIe := false } = true := by decide

/-- V-NOW-1, V-NOW-11. -/
theorem test_nowa :
    goesTo (exec .nowa { State.reset with sovf := 7 })
      { State.reset with sovf := 7, lOvf := 7 } = true ∧ faults (exec .nowa enabled) = true := by
  decide

/-- V-NOW-2. -/
theorem test_nowb :
    goesTo (exec .nowb { State.reset with tcnt := 0xFFFF })
      { State.reset with tcnt := 0xFFFF, lLo := 0xFFFF } = true := by decide

/-- V-NOW-4. -/
theorem test_nowc_below_threshold :
    goesTo (exec .nowc { State.reset with lLo := 32767, tov := true })
      { State.reset with lLo := 32767, tov := true, nowv := 0x00017FFF } = true := by decide

/-- V-NOW-5. -/
theorem test_nowc_at_threshold :
    goesTo (exec .nowc { State.reset with lLo := 32768, tov := true })
      { State.reset with lLo := 32768, tov := true, nowv := 0x00008000 } = true := by decide

/-- V-NOW-8. -/
theorem test_now_pending :
    goesTo (exec .now { State.reset with tov := true })
      { State.reset with tov := true, nowv := 0x00010000 } = true := by decide

/-- V-NOW-10. -/
theorem test_now_pending_too_long :
    goesTo (exec .now { State.reset with sovf := 1, tcnt := 32768, tov := true })
      { State.reset with
        sovf := 1, tcnt := 32768, tov := true, lOvf := 1, lLo := 32768
        nowv := 0x00018000 } = true := by decide

/-- V-OVF-2. -/
theorem test_irq_overflow_wraps :
    goesTo (exec .irq { enabled with tov := true, sovf := 0xFFFF })
      { enabled with tov := false, sovf := 0 } = true := by decide

/-- V-OVF-4: the compare-match has priority over the overflow. -/
theorem test_irq_priority :
    goesTo (exec .irq { enabled with tov := true, cmf := true, tcnt := 100 })
      { enabled with tov := true, tcnt := 100, fAwait := false, fStart := 0x00010064 } = true := by
  decide

/-- V-EDG-4: the period across the wrap of the tick value. -/
theorem test_isrEdge_period :
    goesTo (exec .irq { edgeState with sAwait := false, sStart := 0xFFFFFF00, tcnt := 0x0100 })
      { edgeState with
        edgf := false, sAwait := false, sStart := 256, sPeriod := 512, tcnt := 0x0100 } = true := by
  decide

/-- V-EDG-3: the escalation; `WDOG`, `F_PERIOD` and `F_RLOG` stay. -/
theorem test_isrEdge_escalates :
    goesTo
      (exec .irq { edgeState with
        sAwait := false, sStart := 1000, tcnt := 1099, ecnt := 1, fAwait := false
        fPeriod := 12800, fRlog := 7, wdog := 0xFB })
      { edgeState with
        edgf := false, sAwait := false, sStart := 1099, sPeriod := 99, tcnt := 1099, ecnt := 0
        fAwait := true, fStart := 1099, fPeriod := 12800, fRlog := 7, wdog := 0xFB
        edgeIe := false, active := .fast } = true := by decide

/-- V-CMP-4: the exponent goes up past the hardware limit. -/
theorem test_isrCmp_raises :
    goesTo (exec .irq { cmpState 16 with tcnt := 2000 })
      { cmpState 16 with
        cmf := false, tcnt := 2000, fPeriod := 2000, fRlog := 16, fPlog := 19, xlim := 8
        fStart := 2000 } = true := by decide

/-- V-CMP-8: the exponent goes down to 1 and Slow becomes active. -/
theorem test_isrCmp_deescalates :
    goesTo (exec .irq { cmpState 3 with sovf := 4 })
      { cmpState 3 with
        cmf := false, sovf := 4, fPeriod := 262144, fRlog := 3, fPlog := 1, ek := 1
        fStart := 262144, sPeriod := 32768, sStart := 262144, sAwait := true, edgeIe := true
        active := .slow } = true := by decide

/-- V-ARB-3: the forced transition. -/
theorem test_wdpoll_forces :
    goesTo
      (exec .wdpoll { State.reset with
        wdog := 0, active := .fast, edgeIe := false, fPlog := 8, ek := 8, ecnt := 37
        sPeriod := 50, sAwait := false, sStart := 550, fPeriod := 100, fAwait := false
        fStart := 650 })
      { State.reset with
        wdog := 0xFF, ecnt := 37, fPeriod := 100, fAwait := false, fStart := 650 } = true := by
  decide

/-- V-ARB-5. -/
theorem test_wdpoll_saturates :
    goesTo (exec .wdpoll { State.reset with wdog := 0x80 }) { State.reset with wdog := 0x80 } =
      true := by decide

/-- V-ARB-8. -/
theorem test_force :
    goesTo
      (exec .force { State.reset with
        wdog := 3, active := .fast, edgeIe := false, fPlog := 8, ek := 8, ecnt := 37
        sPeriod := 50, sAwait := false, sStart := 550 })
      { State.reset with wdog := 3, ecnt := 37 } = true := by decide

/-- V-ARB-11, V-ARB-12. -/
theorem test_snap_fast :
    goesTo (exec .snap { State.reset with active := .fast, sPeriod := 20000, fPeriod := 40000 })
      { State.reset with
        active := .fast, sPeriod := 20000, fPeriod := 40000, snapN := 1, snapP := 40000 } = true ∧
      faults (exec .snap enabled) = true := by decide

/-- V-FRQ-1. -/
theorem test_freq_scenario :
    goesTo (exec (.freq 10 16000) State.reset) { State.reset with fq := 1000, fqu := false } =
      true := by decide

/-- V-FRQ-9, V-FRQ-16. -/
theorem test_freq_half_and_zero :
    goesTo (exec (.freq 0 31250) State.reset) { State.reset with fq := 1 } = true ∧
      goesTo (exec (.freq 7 0) State.reset) { State.reset with fq := 0, fqu := true } = true := by
  decide

/-- The second example of `FREQS` in spec/95_test_vectors.md section 7. -/
theorem test_freqs :
    goesTo (exec .freqs { State.reset with snapN := 10, snapP := 10240 })
      { State.reset with snapN := 10, snapP := 10240, fq := 1563, fqu := false } = true := by
  decide

/-- V-HST-1. -/
theorem test_nop : goesTo (exec .nop enabled) enabled = true := by decide

/-- V-HST-4. -/
theorem test_cli :
    goesTo (exec .cli { enabled with tov := true }) { State.reset with tov := true } = true := by
  decide

/-- V-HST-5: `SEI` runs no handler. -/
theorem test_sei :
    goesTo (exec .sei { State.reset with cmf := true }) { enabled with cmf := true } = true := by
  decide

/-- V-HST-8. -/
theorem test_rd_wdog :
    goesTo (exec (.rd .wdog) { State.reset with wdog := 0xFE })
      { State.reset with wdog := 0xFE, dout := 0xFE } = true := by decide

/-- V-HST-10. -/
theorem test_rd_dout :
    goesTo (exec (.rd .dout) { State.reset with dout := 77 }) { State.reset with dout := 77 } =
      true := by decide

/-- R210. -/
theorem test_reset :
    goesTo (exec .reset { cmpState 18 with tcnt := 9, dout := 3 }) State.reset = true := by decide

/-! ### Witnesses: a concrete case for every statement that has hypotheses -/

/-- DecodeInvertsEncode, WrittenLineAssemblesToItsCommand: the largest exponent. -/
theorem witness_wellFormed : (Instr.freq 20 4294967295).wellFormed = true := by decide

/-- EncodeInvertsDecode. -/
theorem witness_word_decodes : decode 0x2814000000000001 = .ok (.freq 20 1) := by rfl

/-- IllegalWordsAreRefused: exponent 21, the last index before a hole, `z`, and a step at one. -/
theorem witness_illegal_words :
    IllegalWord 0x2815000000000001 ∧ IllegalWord 0x300B000000000000 ∧
      IllegalWord 0x0200000100000000 ∧ ¬ IllegalWord 0x2814000000000001 := by
  refine ⟨?_, ?_, ?_, ?_⟩ <;> simp only [IllegalWord] <;> decide

theorem witness_illegal_step :
    (withWord 0x2815000000000001).stream[(withWord 0x2815000000000001).pos]? =
        some 0x2815000000000001 ∧
      refuses .exponentTooLarge (step (withWord 0x2815000000000001)) = true := by decide

/-- StepRunsTheDecodedCommand: a command that completes, and one that faults. -/
theorem witness_step_next :
    (withWord 0).stream[(withWord 0).pos]? = some 0 ∧ decodesTo 0 .nop = true ∧
      completes (exec .nop (withWord 0)) = true := by decide

theorem witness_step_fault :
    ({ withWord 0x1B00000000000000 with gie := true } : State).stream[0]? =
        some 0x1B00000000000000 ∧ decodesTo 0x1B00000000000000 .now = true ∧
      faults (exec .now { withWord 0x1B00000000000000 with gie := true }) = true := by decide

/-- StreamRunsCommandByCommand: two commands between other words. -/
theorem witness_stream :
    let is : List Instr := [.tick 5, .edge]
    let s : State := { State.reset with
      stream := [0x3F00000000000000] ++ is.map encode ++ [0], pos := 1 }
    (∀ i ∈ is, i.wellFormed = true) ∧
      s.stream = [0x3F00000000000000] ++ is.map encode ++ [0] ∧
      s.pos = [(0x3F00000000000000 : CommandWord)].length ∧ completes (runCommands is s) = true := by
  decide

/-- CommandsLeaveStreamAndParameters. -/
theorem witness_command_completes : completes (exec .irq edgeState) = true := by decide

/-- StepKeepsRegisterInvariants: the reset state with a word loaded meets the invariants and
steps. -/
theorem witness_invariants : RegisterInvariants (withWord 0x0200000000000000) := by
  constructor <;> decide

theorem witness_invariants_step : completes (step (withWord 0x0200000000000000)) = true := by
  decide

/-- StepKeepsRegisterInvariants, ShortWindowRaisesTheExponent: with Fast active too, at a firing
compare-match. -/
theorem witness_invariants_fast :
    RegisterInvariants
      { cmpState 19 with xcnt := 7, tcnt := 10, stream := [0x0800000000000000] } := by
  constructor <;> decide

theorem witness_invariants_fast_step :
    completes (step { cmpState 19 with xcnt := 7, tcnt := 10, stream := [0x0800000000000000] }) =
      true := by decide

/-- OverflowHandlerCountsOneOverflow, at the wrap of `SOVF`. -/
theorem witness_overflow :
    let s : State := { enabled with tov := true, sovf := 0xFFFF }
    s.gie = true ∧ s.tov = true ∧ s.cmf = false ∧ (s.edgf && s.edgeIe) = false := by decide

/-- The two clauses of SplitReadSteps, NowEqualsTheThreeReads, ForceWritesFreshSlow,
SnapCopiesTheActiveRecord, WatchdogPollOutcomes, OnlyUnprotectedAccessFaults. -/
theorem witness_gie : State.reset.gie = false ∧ enabled.gie = true := by decide

/-- ReadHoldsTrueTime: the last exact count after a wrap, and the first count pending too long. -/
theorem witness_time_exact :
    overflowSafe [.tick 98303, .now] State.reset = true ∧
      completes (runCommands [.tick 98303, .now] State.reset) = true ∧
      overflowPendingTooLong (advanceTicks 98303 State.reset) = false := by decide

theorem witness_time_too_long :
    overflowSafe [.tick 98304, .now] State.reset = true ∧
      completes (runCommands [.tick 98304, .now] State.reset) = true ∧
      overflowPendingTooLong (advanceTicks 98304 State.reset) = true := by decide

theorem witness_time_reset : TracksTime 0 State.reset := by rfl

/-- SplitReadReturnsTheReadInstant: the race of R116 with the longest delay its last clause
allows. -/
theorem witness_split_read :
    State.reset.gie = false ∧
      overflowSafe [.nowa, .tick 65535, .nowb, .tick 32768, .nowc] State.reset = true ∧
      (advanceTicks 65535 State.reset).tov = false ∧
      (32768 : BitVec 32).toNat ≤ 2 ^ 16 - State.reset.cfg.ovfThreshold := by decide

/-- SplitReadReturnsTheReadInstant: an overflow pending at the `NOWB`, one tick below the threshold
and at it. -/
theorem witness_split_read_pending :
    let s : State := { State.reset with tov := true }
    s.gie = false ∧
      (overflowSafe [.nowa, .tick 32767, .nowb, .tick 5, .nowc] s = true ∧
        (advanceTicks 32767 s).tov = true ∧
        (advanceTicks 32767 s).tcnt.toNat < s.cfg.ovfThreshold) ∧
      (overflowSafe [.nowa, .tick 32768, .nowb, .tick 5, .nowc] s = true ∧
        (advanceTicks 32768 s).tov = true ∧
        ¬ (advanceTicks 32768 s).tcnt.toNat < s.cfg.ovfThreshold) := by decide

theorem witness_split_read_pending_time :
    TracksTime 65536 { State.reset with tov := true } := by rfl

/-- UncountedWrapsAreLost: one wrap with nothing pending loses nothing (V-TCK-5); two wraps
(V-TCK-6), and one while an overflow is pending, lose one. -/
theorem witness_uncounted_wraps :
    losesNoWrap (.tick 65536) State.reset = true ∧ losesNoWrap (.tick 131072) State.reset = false ∧
      losesNoWrap (.tick 65536) { State.reset with tov := true } = false := by decide

/-- ExactReadsDifferByElapsedTicks. -/
theorem witness_two_reads :
    (∀ i ∈ [Instr.tick 65535, .tick 32768], i ≠ .reset) ∧
      overflowSafe [.tick 65535, .tick 32768] State.reset = true ∧
      overflowPendingTooLong State.reset = false ∧
      completes (runCommands [.tick 65535, .tick 32768] State.reset) = true ∧
      overflowPendingTooLong (advanceTicks 32768 (advanceTicks 65535 State.reset)) = false := by
  decide

/-- CompareMatchOncePerWindow: a whole window of two events, and of `2^16`. -/
theorem witness_window :
    State.reset.ek.toNat ≤ 16 ∧ State.reset.ecnt = 0 ∧ State.reset.cmf = false ∧
      2 ≤ 2 ^ State.reset.ek.toNat ∧
      65536 ≤ 2 ^ ({ State.reset with ek := 16 } : State).ek.toNat := by decide

/-- EdgeRestoresCountBelowLimit: the count is above the limit. -/
theorem witness_lowered_limit :
    ({ State.reset with ecnt := 5 } : State).ek.toNat ≤ 16 ∧
      ¬ ({ State.reset with ecnt := 5 } : State).ecnt.toNat < 2 ^ State.reset.ek.toNat := by decide

/-- EdgeHandlerOutcomes: first edge; a period at `ESC`; a period one below. -/
theorem witness_edge_handler :
    (edgeState.gie = true ∧ edgeState.edgf = true ∧ edgeState.edgeIe = true ∧
        edgeState.sAwait = true) ∧
      (let s : State := { edgeState with sAwait := false, sStart := 1000, tcnt := 1100 }
       s.sAwait = false ∧ s.cfg.esc ≤ (nowTick s - s.sStart).toNat) ∧
      (let s : State := { edgeState with sAwait := false, sStart := 1000, tcnt := 1099 }
       s.sAwait = false ∧ (nowTick s - s.sStart).toNat < s.cfg.esc) := by decide

/-- TwoEdgesMeasureTheirSpacing: at `ESC` and one below. -/
theorem witness_two_edges :
    (enabled.gie = true ∧ enabled.edgeIe = true ∧ enabled.sAwait = true ∧
        overflowPendingTooLong enabled = false) ∧
      (losesNoWrap (.tick 100) enabled = true ∧
        overflowPendingTooLong (advanceTicks 100 enabled) = false ∧
        enabled.cfg.esc ≤ (100 : BitVec 32).toNat) ∧
      (losesNoWrap (.tick 99) enabled = true ∧
        overflowPendingTooLong (advanceTicks 99 enabled) = false ∧
        (99 : BitVec 32).toNat < enabled.cfg.esc) := by decide

/-- ProgramSplitsTheExponent, LowerLoopStopsAtTheTarget: the ends of the range. -/
theorem witness_exponents : (1 ≤ 1 ∧ 1 ≤ 20) ∧ (1 ≤ 20 ∧ 20 ≤ 20) := by decide

/-- AdaptationKeepsTheWindowInBand: up (V-CMP-4), up to the top (V-CMP-5), down (V-CMP-7), down to
1 (V-CMP-8), stays (V-CMP-10, V-CMP-11). -/
theorem witness_adaptation :
    0 < Config.default.low ∧
      adaptExponent Config.default 16 2000 = (19, 16000) ∧
      adaptExponent Config.default 19 10 = (20, 20) ∧
      adaptExponent Config.default 6 262144 = (2, 16384) ∧
      adaptExponent Config.default 3 262144 = (1, 65536) ∧
      adaptExponent Config.default 1 30000 = (1, 30000) ∧
      adaptExponent Config.default 5 10000 = (5, 10000) := by decide

/-- CompareMatchReloadsTheWatchdog, FirstFiringStartsTheWindow, FiringRunOutcomes: a run that does
not fire (V-CMP-1), the first that fires (V-CMP-17), one with a period (V-CMP-21). -/
theorem witness_compare_match_runs :
    (let s : State := { cmpState 18 with xcnt := 1 }
     s.gie = true ∧ s.cmf = true ∧ (s.edgf && s.edgeIe) = false ∧
       s.xcnt.toNat + 1 < s.xlim.toNat) ∧
      (let s : State := { cmpState 1 with fAwait := true, tcnt := 1234 }
       s.gie = true ∧ s.cmf = true ∧ (s.edgf && s.edgeIe) = false ∧ s.xlim = 1 ∧
         s.xlim.toNat ≤ s.xcnt.toNat + 1 ∧ s.xcnt.toNat + 1 < 32 ∧ s.fAwait = true) ∧
      (let s : State := { cmpState 19 with xcnt := 7, tcnt := 5000 }
       s.gie = true ∧ s.cmf = true ∧ (s.edgf && s.edgeIe) = false ∧
         s.xlim.toNat ≤ s.xcnt.toNat + 1 ∧ s.xcnt.toNat + 1 < 32 ∧ s.fAwait = false) := by decide

/-- FiringRunOutcomes: de-escalation and not (V-CMP-9, V-CMP-10), promotion and not (V-CMP-14,
V-CMP-16). -/
theorem witness_firing_modes :
    (let s : State := { cmpState 1 with tcnt := 30001 }
     s.active = .fast ∧ s.cfg.high < (adaptExponent s.cfg 1 (fastPeriod s)).2) ∧
      (let s : State := { cmpState 1 with tcnt := 30000 }
       s.active = .fast ∧ ¬ s.cfg.high < (adaptExponent s.cfg 1 (fastPeriod s)).2) ∧
      (let s : State := { cmpState 1 with active := .slow, edgeIe := true, sPeriod := 9000 }
       s.active = .slow ∧ s.sPeriod.toNat < s.cfg.low) ∧
      (let s : State := { cmpState 1 with
        active := .slow, edgeIe := true, sPeriod := 32768, sovf := 1 }
       s.active = .slow ∧ ¬ ((fastPeriod s < s.cfg.low ∧ s.fPlog.toNat < 20) ∨
         s.sPeriod.toNat < s.cfg.low)) := by decide

/-- ShortWindowRaisesTheExponent: the longest short window, at exponent 19 (the invariants hold by
`witness_invariants_short`). -/
theorem witness_short_window :
    let s : State := { cmpState 19 with xcnt := 7, tcnt := 9999 }
    s.gie = true ∧ s.cmf = true ∧ s.edgf = false ∧ fires s = true ∧ s.fAwait = false ∧
      fastPeriod s < s.cfg.low ∧ s.fPlog.toNat < 20 := by decide

theorem witness_invariants_short :
    RegisterInvariants { cmpState 19 with xcnt := 7, tcnt := 9999 } := by
  constructor <;> decide

/-- ZeroLengthWindows: a zero Slow window (V-EDG-5) and a zero Fast window (V-CMP-20). -/
theorem witness_zero_slow_window :
    let s : State := { edgeState with sAwait := false, sStart := 500, tcnt := 500 }
    s.gie = true ∧ 0 < s.cfg.low ∧ 0 < s.cfg.esc ∧ s.edgf = true ∧ s.sAwait = false ∧
      slowPeriod s = 0 := by decide

theorem witness_zero_slow_invariants :
    RegisterInvariants { edgeState with sAwait := false, sStart := 500, tcnt := 500 } := by
  constructor <;> decide

theorem witness_zero_fast_window :
    (cmpState 1).gie = true ∧ (cmpState 1).edgf = false ∧ (cmpState 1).cmf = true ∧
      fires (cmpState 1) = true ∧ (cmpState 1).fAwait = false ∧ fastPeriod (cmpState 1) = 0 := by
  decide

theorem witness_zero_fast_invariants : RegisterInvariants (cmpState 1) := by
  constructor <;> decide

/-- WatchdogPollOutcomes: 0 after the decrement with Fast active; -1 with Slow active; -1 with Fast
active. -/
theorem witness_watchdog_poll :
    (let s : State := { cmpState 1 with gie := false, wdog := 1 }
     s.gie = false ∧ s.active = .fast ∧ (decrementCountdown s.wdog).toInt = 0) ∧
      (let s : State := { State.reset with wdog := 0 }
       s.gie = false ∧ s.active = .slow ∧ (decrementCountdown s.wdog).toInt = -1) ∧
      (let s : State := { cmpState 1 with gie := false, wdog := 0 }
       s.gie = false ∧ s.active = .fast ∧ (decrementCountdown s.wdog).toInt = -1) := by decide

/-- WatchdogForcesSlowExactlyOnce: the default ceiling, the last poll before the transition and
the poll that takes it. -/
theorem witness_watchdog_run :
    let s : State := { cmpState 1 with gie := false }
    s.gie = false ∧ s.active = .fast ∧ s.wdog.toInt = (4 : Nat) ∧ 4 ≤ 4 ∧ 4 < 5 := by decide

/-- SnapCopiesTheActiveRecord: each mode with `GIE = 0`. -/
theorem witness_snap_modes :
    (State.reset.gie = false ∧ State.reset.active = .slow) ∧
      (let s : State := { cmpState 1 with gie := false }
       s.gie = false ∧ s.active = .fast) := by decide

/-- ActiveChangesOnlyByTheTable: Slow to Fast by escalation, Fast to Slow by de-escalation. -/
theorem witness_mode_changes :
    (let s : State := { edgeState with sAwait := false, sStart := 500, tcnt := 550 }
     s.active = .slow ∧ leaves (exec .irq s) (fun t => decide (t.active = .fast)) = true) ∧
      (let s : State := { cmpState 1 with tcnt := 30001 }
       s.active = .fast ∧ leaves (exec .irq s) (fun t => decide (t.active = .slow)) = true) := by
  decide

/-- WatchdogWriters: one command of each clause. -/
theorem witness_watchdog_writers :
    runsHandler .compareMatch .irq (cmpState 1) = true ∧ completes (exec .irq (cmpState 1)) = true ∧
      completes (exec .wdpoll State.reset) = true ∧ completes (exec .reset State.reset) = true ∧
      runsHandler .compareMatch .irq edgeState = false ∧
      completes (exec .irq edgeState) = true := by decide

/-- WatchdogUndoesAFreshEscalation: hazard stream H3, at -2 and at the countdown 0. -/
theorem witness_fresh_escalation :
    let s : State := { edgeState with
      sAwait := false, sStart := 1000, tcnt := 1050, wdog := 0xFE }
    s.gie = true ∧ s.edgf = true ∧ s.edgeIe = true ∧ s.sAwait = false ∧
      slowPeriod s < s.cfg.esc ∧ s.wdog.toInt ≤ 0 ∧ ({ s with wdog := 0 } : State).wdog.toInt ≤ 0 := by
  decide

/-- WatchdogUndoesAFreshEscalation: what stands in between, for each clause. The `IRQ` of the second
list runs `ISR_OVF`. -/
theorem witness_fresh_escalation_between :
    let s : State := { edgeState with
      sAwait := false, sStart := 1000, tcnt := 1050, wdog := 0xFE }
    (∀ i ∈ [Instr.tick 30, .edge], isEnvironment i = true) ∧
      (let between : List Instr := [.tick 65536, .irq, .edge, .cli, .now]
       (∀ i ∈ between, leavesWatchdogAndMode i = true) ∧
         withoutCompareMatchRun (.irq :: between) s = true ∧
         leaves (runCommands (.irq :: between) s) (fun u => !u.gie && decide (u.sovf = 1)) =
           true) := by decide

/-- CalculatorCommandResults: the largest exponent, from the operand and from the snapshot. -/
theorem witness_calculator :
    (20 : Exponent).toNat ≤ 20 ∧ ({ State.reset with snapN := 20 } : State).snapN.toNat ≤ 20 := by
  decide

/-- CalculatorNeverTruncates: the default parameters, and the largest legal `K`. -/
theorem witness_valid_parameters :
    Config.default.Valid ∧ ({ Config.default with k := 4294967295 } : Config).Valid := by decide

/-- CalculatorRoundsHalfUp, CalculatorScalingAndMonotony: the smallest and the largest divisor. -/
theorem witness_ticks : 0 < 1 ∧ 0 < 4294967295 := by decide

/-- TwoWidthCalculatorAgrees: the default parameters, the largest ticks. -/
theorem witness_two_width :
    (∀ n < Config.default.widthSwitchN, Config.default.k * 2 ^ n ≤ 2 ^ 31) ∧
      4294967295 < 2 ^ 32 := by decide

/-- NoMeasurementReadsAsPlaceholder: the reset state. -/
theorem witness_no_measurement :
    State.reset.gie = false ∧ State.reset.active = .slow ∧ State.reset.sPeriod = periodMax ∧
      State.reset.cfg.k < 2 ^ 31 := by decide

/-- DrainServesEverything: all three pending (V-HST-2). -/
theorem witness_drain :
    let s : State := { edgeState with cmf := true, tov := true, tcnt := 9 }
    s.gie = true ∧ (s.edgf = true → s.edgeIe = true) ∧ s.edgf = true ∧ s.cmf = true ∧
      s.tov = true := by decide

/-- OnlyUnprotectedAccessFaults: a command of each kind. -/
theorem witness_suppression :
    needsSuppression .snap = true ∧ enabled.gie = true ∧ needsSuppression .irq = false := by decide

/-- CriticalSectionFreezesHandlerRegisters: time, an edge and a dispatch point inside; and with a
`WDPOLL` and a `FORCE` as well, for its first clause. -/
theorem witness_critical_section :
    let s : State := { State.reset with cmf := true, tov := true }
    s.gie = false ∧
      ((∀ i ∈ [Instr.tick 70000, .edge, .irq, .snap], leavesHandlerRegisters i = true) ∧
        completes (runCommands [.tick 70000, .edge, .irq, .snap] s) = true) ∧
      ((∀ i ∈ [Instr.edge, .irq, .wdpoll, .force], i ≠ .sei ∧ i ≠ .reset) ∧
        completes (runCommands [.edge, .irq, .wdpoll, .force] s) = true) := by decide

/-- LatchesKeepTheirValues: a handler run. -/
theorem witness_latches :
    leavesLatches .irq = true ∧ completes (exec .irq edgeState) = true := by decide

end Sys2Proof.Tests
end

section
/-!
PROOFS. The statements about the state (spec/10_state.md): what a command that completes leaves,
what no handler writes (R22, R59, R77), and the register invariants (R58) command by command.
-/
namespace Sys2Proof.Machine

/-! ### What a command that completes leaves -/

/-- The state a dispatch point leaves (R206). -/
def dispatch (s : State) : State :=
  match selectInterrupt s with
  | some src => takeInterrupt src (handlerBody src) s
  | none => s

theorem execIrq_eq (s : State) : execIrq s = .next (dispatch s) := by
  unfold execIrq dispatch
  cases selectInterrupt s <;> rfl

/-- What a dispatch point can do: one of the three handlers, after its pending bit is cleared, or
nothing. -/
theorem dispatch_cases (s : State) :
    (selectInterrupt s = some .edgeDetect ∧ dispatch s = isrEdge { s with edgf := false }) ∨
      (selectInterrupt s = some .compareMatch ∧ dispatch s = isrCmp { s with cmf := false }) ∨
      (selectInterrupt s = some .clockOverflow ∧ dispatch s = isrOvf { s with tov := false }) ∨
      (selectInterrupt s = none ∧ dispatch s = s) := by
  simpa only [execIrq_eq, Host.Outcome.next.injEq] using execIrq_cases s

/-- The state `EDGE` leaves (R131). -/
def edgeEffect (s : State) : State :=
  { countEvent s with edgf := edgfAfterEdge s.edgf s.edgeIe }

/-- The state a command leaves when it completes. -/
def commandEffect (i : Instr) (s : State) : State :=
  match i with
  | .nop => s
  | .tick d => advanceTicks d s
  | .edge => edgeEffect s
  | .irq => dispatch s
  | .cli => { s with gie := false }
  | .sei => { s with gie := true }
  | .nowa => { s with lOvf := s.sovf }
  | .nowb => { s with lLo := s.tcnt }
  | .nowc => { s with nowv := tickValue s.cfg.ovfThreshold s.lOvf s.lLo s.tov }
  | .now => { s with lOvf := s.sovf, lLo := s.tcnt, nowv := nowTick s }
  | .snap => snapshot s
  | .wdpoll => watchdogStep s
  | .force => forceSlow s
  | .freq n ticks => calculate (exponentOperand n) (ticksOperand ticks) s
  | .freqs => calculate s.snapN.toNat s.snapP.toNat s
  | .rd r => { s with dout := readReg r s }
  | .reset => State.resetWith s.cfg s.stream s.pos

/-- `exec` is the guard of R211 on the seven commands that need it, and the command's effect. -/
theorem exec_eq (i : Instr) (s : State) :
    exec i s =
      if needsSuppression i then whenSuppressed s (commandEffect i s)
      else .next (commandEffect i s) := by
  cases i
  case irq => exact execIrq_eq s
  all_goals rfl

/-- What a command that answers a next state did. -/
theorem exec_next_iff {i : Instr} {s t : State} :
    exec i s = .next t ↔
      (needsSuppression i = true → s.gie = false) ∧ commandEffect i s = t := by
  rw [exec_eq]
  cases needsSuppression i
  · simp
  · simp [whenSuppressed_next_iff]

/-! ### What no handler writes -/

/-- `t` agrees with `s` on everything that no handler, no edge and no forced transition writes: the
hardware tick counter, the interrupt enable, the host latches and the model's own fields (R22, R59,
R77). -/
structure AgreeOffHandlers (s t : State) : Prop where
  tcnt : t.tcnt = s.tcnt
  gie : t.gie = s.gie
  latches : hostLatches t = hostLatches s
  stream : t.stream = s.stream
  pos : t.pos = s.pos
  cfg : t.cfg = s.cfg

namespace AgreeOffHandlers

theorem refl (s : State) : AgreeOffHandlers s s := ⟨rfl, rfl, rfl, rfl, rfl, rfl⟩

theorem trans {s t u : State} (h : AgreeOffHandlers s t) (k : AgreeOffHandlers t u) :
    AgreeOffHandlers s u :=
  ⟨k.tcnt.trans h.tcnt, k.gie.trans h.gie, k.latches.trans h.latches, k.stream.trans h.stream,
    k.pos.trans h.pos, k.cfg.trans h.cfg⟩

theorem makeFastActive (s : State) : AgreeOffHandlers s (makeFastActive s) :=
  ⟨rfl, rfl, rfl, rfl, rfl, rfl⟩

theorem setFastExponent (e : Nat) (s : State) : AgreeOffHandlers s (setFastExponent e s) :=
  ⟨rfl, rfl, rfl, rfl, rfl, rfl⟩

theorem forceSlow (s : State) : AgreeOffHandlers s (forceSlow s) :=
  ⟨rfl, rfl, rfl, rfl, rfl, rfl⟩

theorem escalate (t : Tick) (s : State) : AgreeOffHandlers s (escalate t s) :=
  ⟨rfl, rfl, rfl, rfl, rfl, rfl⟩

theorem deescalate (t : Tick) (p : Nat) (s : State) : AgreeOffHandlers s (deescalate t p s) :=
  ⟨rfl, rfl, rfl, rfl, rfl, rfl⟩

theorem closeFastWindow (t : Tick) (s : State) : AgreeOffHandlers s (closeFastWindow t s) :=
  ⟨rfl, rfl, rfl, rfl, rfl, rfl⟩

theorem adaptStep (e p : Nat) (s : State) : AgreeOffHandlers s (adaptStep e p s) := by
  unfold Machine.adaptStep
  dsimp only
  split
  · exact (setFastExponent _ s).trans (makeFastActive _)
  · exact setFastExponent _ s

theorem modeCheck (t : Tick) (e p : Nat) (s : State) :
    AgreeOffHandlers s (modeCheck t e p s) := by
  unfold Machine.modeCheck
  split_ifs
  · exact deescalate t p s
  · exact makeFastActive s
  · exact refl s

theorem fireWithPeriod (t : Tick) (s : State) : AgreeOffHandlers s (fireWithPeriod t s) :=
  ((closeFastWindow t s).trans (adaptStep _ _ _)).trans (modeCheck t _ _ _)

theorem isrEdge (s : State) : AgreeOffHandlers s (isrEdge s) := by
  obtain ⟨-, h⟩ | ⟨-, -, h⟩ | ⟨-, -, h⟩ := isrEdge_cases s <;> rw [h]
  · exact ⟨rfl, rfl, rfl, rfl, rfl, rfl⟩
  · exact ⟨rfl, rfl, rfl, rfl, rfl, rfl⟩
  · exact ⟨rfl, rfl, rfl, rfl, rfl, rfl⟩

theorem isrCmp (s : State) : AgreeOffHandlers s (isrCmp s) := by
  obtain ⟨-, h⟩ | ⟨-, -, h⟩ | ⟨-, -, h⟩ := isrCmp_cases s <;> rw [h]
  · exact ⟨rfl, rfl, rfl, rfl, rfl, rfl⟩
  · exact ⟨rfl, rfl, rfl, rfl, rfl, rfl⟩
  · have hcounted : AgreeOffHandlers s { s with wdog := s.cfg.ceiling, xcnt := 0 } :=
      ⟨rfl, rfl, rfl, rfl, rfl, rfl⟩
    exact hcounted.trans (fireWithPeriod _ _)

theorem dispatch (s : State) : AgreeOffHandlers s (dispatch s) := by
  obtain ⟨-, h⟩ | ⟨-, h⟩ | ⟨-, h⟩ | ⟨-, h⟩ := dispatch_cases s <;> rw [h]
  · have hentry : AgreeOffHandlers s { s with edgf := false } := ⟨rfl, rfl, rfl, rfl, rfl, rfl⟩
    exact hentry.trans (isrEdge _)
  · have hentry : AgreeOffHandlers s { s with cmf := false } := ⟨rfl, rfl, rfl, rfl, rfl, rfl⟩
    exact hentry.trans (isrCmp _)
  · exact ⟨rfl, rfl, rfl, rfl, rfl, rfl⟩
  · exact refl s

theorem edgeEffect (s : State) : AgreeOffHandlers s (edgeEffect s) := by
  unfold Machine.edgeEffect
  by_cases h : 2 ^ s.ek.toNat ≤ s.ecnt.toNat + 1
  · rw [countEvent_of_match h]
    exact ⟨rfl, rfl, rfl, rfl, rfl, rfl⟩
  · rw [countEvent_of_no_match h]
    exact ⟨rfl, rfl, rfl, rfl, rfl, rfl⟩

theorem watchdogStep (s : State) : AgreeOffHandlers s (watchdogStep s) := by
  have hpolled : AgreeOffHandlers s { s with wdog := decrementCountdown s.wdog } :=
    ⟨rfl, rfl, rfl, rfl, rfl, rfl⟩
  unfold Machine.watchdogStep
  dsimp only
  split
  · exact hpolled.trans (forceSlow _)
  · exact hpolled

end AgreeOffHandlers

/-! ### The stream, the parameters and the host latches -/

theorem snapshot_ownFields (s : State) :
    (snapshot s).stream = s.stream ∧ (snapshot s).pos = s.pos ∧ (snapshot s).cfg = s.cfg := by
  unfold snapshot
  cases s.active <;> exact ⟨rfl, rfl, rfl⟩

theorem commandEffect_ownFields (i : Instr) (s : State) :
    (commandEffect i s).stream = s.stream ∧ (commandEffect i s).pos = s.pos ∧
      (commandEffect i s).cfg = s.cfg := by
  have of_agree {t : State} (h : AgreeOffHandlers s t) :
      t.stream = s.stream ∧ t.pos = s.pos ∧ t.cfg = s.cfg := ⟨h.stream, h.pos, h.cfg⟩
  cases i
  case edge => exact of_agree (.edgeEffect s)
  case irq => exact of_agree (.dispatch s)
  case wdpoll => exact of_agree (.watchdogStep s)
  case force => exact of_agree (.forceSlow s)
  case snap => exact snapshot_ownFields s
  all_goals exact ⟨rfl, rfl, rfl⟩

theorem commandEffect_hostLatches {i : Instr} (hi : leavesLatches i = true) (s : State) :
    hostLatches (commandEffect i s) = hostLatches s := by
  cases i with
  | edge => exact (AgreeOffHandlers.edgeEffect s).latches
  | irq => exact (AgreeOffHandlers.dispatch s).latches
  | wdpoll => exact (AgreeOffHandlers.watchdogStep s).latches
  | force => exact (AgreeOffHandlers.forceSlow s).latches
  | nop | tick _ | cli | sei => rfl
  | nowa | nowb | nowc | now | snap | freq _ _ | freqs | rd _ | reset => cases hi

/-- Settles O9: every command's effect keeps the three fields. -/
theorem commandsLeaveStreamAndParameters : Obligations.CommandsLeaveStreamAndParameters := by
  unfold Obligations.CommandsLeaveStreamAndParameters
  intro i s t h
  obtain ⟨-, rfl⟩ := exec_next_iff.1 h
  exact commandEffect_ownFields i s

/-- Settles O56, by cases on the commands that name no latch. -/
theorem latchesKeepTheirValues : Obligations.LatchesKeepTheirValues := by
  unfold Obligations.LatchesKeepTheirValues
  intro i s t hi h
  obtain ⟨-, rfl⟩ := exec_next_iff.1 h
  exact commandEffect_hostLatches hi s

/-! ### The event count after an edge -/

theorem countEvent_ek (s : State) : (countEvent s).ek = s.ek := by
  unfold countEvent
  split <;> rfl

/-- One event brings the count below the limit: a compare-match clears it, and without one it is
still below after counting up. `EK <= 16` keeps the sum inside the register. -/
theorem countEvent_ecnt_lt {s : State} (hek : s.ek.toNat ≤ 16) :
    (countEvent s).ecnt.toNat < 2 ^ s.ek.toNat := by
  by_cases hm : 2 ^ s.ek.toNat ≤ s.ecnt.toNat + 1
  · rw [countEvent_of_match hm]
    exact Nat.two_pow_pos _
  · have hlimit : 2 ^ s.ek.toNat ≤ 2 ^ 16 := Nat.pow_le_pow_right (by decide) hek
    have hsum : (s.ecnt + 1).toNat = s.ecnt.toNat + 1 := BitVec.toNat_add_of_lt (by simp; omega)
    rw [countEvent_of_no_match hm, hsum]
    exact Nat.lt_of_not_le hm

/-- Settles O25: the limit itself is untouched by the event. -/
theorem edgeRestoresCountBelowLimit : Obligations.EdgeRestoresCountBelowLimit := by
  unfold Obligations.EdgeRestoresCountBelowLimit
  intro s hek
  refine ⟨edgeEffect s, rfl, ?_⟩
  have hlt := countEvent_ecnt_lt hek
  rwa [← countEvent_ek] at hlt

/-! ### The adaptation keeps the exponent in its range (R154, R155) -/

/-- The up-loop's exponent. -/
theorem raiseExponent_fst_bounds (low room e p : Nat) :
    e ≤ (raiseExponent low room e p).1 ∧ (raiseExponent low room e p).1 ≤ e + room := by
  induction room generalizing e p with
  | zero => simp [raiseExponent]
  | succ room ih =>
    unfold raiseExponent
    split
    · have := ih (e + 1) (2 * p)
      omega
    · simp

/-- The down-loop's exponent. -/
theorem lowerExponent_fst_bounds (high p : Nat) {e : Nat} (he : 1 ≤ e) :
    1 ≤ (lowerExponent high e p).1 ∧ (lowerExponent high e p).1 ≤ e := by
  induction e, p using lowerExponent.induct high with
  | case1 => omega
  | case2 p => simp [lowerExponent]
  | case3 e p hlong ih =>
    have := ih (by omega)
    simp only [lowerExponent, hlong, if_true]
    omega
  | case4 e p hshort => simp [lowerExponent, hshort]

theorem adaptExponent_fst_bounds (c : Config) (p : Nat) {e : Nat} (hlow : 1 ≤ e)
    (hhigh : e ≤ nmax) : 1 ≤ (adaptExponent c e p).1 ∧ (adaptExponent c e p).1 ≤ nmax := by
  unfold adaptExponent
  split
  · have := raiseExponent_fst_bounds c.low (nmax - e) e p
    omega
  · have := lowerExponent_fst_bounds c.high p hlow
    omega

/-- From exponent 1 only branch A changes the exponent. -/
theorem adaptExponent_one_fst {c : Config} {p : Nat} (h : ¬ takesBranchA c 1 p = true) :
    (adaptExponent c 1 p).1 = 1 := by
  simp [adaptExponent, h, lowerExponent]

theorem adaptStep_fPlog (e p : Nat) (s : State) :
    (adaptStep e p s).fPlog = BitVec.ofNat 5 (adaptExponent s.cfg e p).1 := by
  unfold adaptStep
  dsimp only
  split <;> rfl

/-! ### The register invariants: what they depend on -/

theorem readReg_sRlog (s : State) : readReg .sRlog s = 0 := by simp [readReg]

theorem readReg_sPlog (s : State) : readReg .sPlog s = 0 := by simp [readReg]

/-- The registers that R58's invariants speak of, but for the two that are hardwired. -/
def invariantRegisters (s : State) :
    (Exponent × Exponent × Exponent) × (Exponent × Exponent × Exponent) × Bool × Bool × Mode :=
  ((s.ek, s.xlim, s.xcnt), (s.fPlog, s.fRlog, s.snapN), s.edgf, s.edgeIe, s.active)

namespace RegisterInvariants

/-- The invariants carry over to a state with the same values in the registers they speak of. -/
theorem congr {s t : State} (hs : RegisterInvariants s)
    (h : invariantRegisters t = invariantRegisters s) : RegisterInvariants t := by
  simp only [invariantRegisters, Prod.mk.injEq] at h
  obtain ⟨⟨hek, hxlim, hxcnt⟩, ⟨hplog, hrlog, hsnap⟩, hedgf, hie, hactive⟩ := h
  constructor
  case slowExponentsZero => exact ⟨readReg_sRlog t, readReg_sPlog t⟩
  all_goals simp only [hek, hxlim, hxcnt, hplog, hrlog, hsnap, hedgf, hie, hactive]
  exacts [hs.ekLow, hs.ekHigh, hs.xlimOfExponent, hs.ekOfExponent, hs.xcntBelowLimit, hs.fPlogLow,
    hs.fPlogHigh, hs.fRlogLow, hs.fRlogHigh, hs.edgfEnabled, hs.edgeIeExactlySlow,
    hs.slowMeansExponentOne, hs.snapNHigh]

theorem resetWith (cfg : Config) (stream : List CommandWord) (pos : Nat) :
    RegisterInvariants (State.resetWith cfg stream pos) := by
  constructor <;> simp [State.resetWith, hwn, nmax, readReg]

/-! ### Updates that keep the invariants -/

theorem setEdgf {s : State} (hs : RegisterInvariants s) {b : Bool}
    (hb : b = true → s.edgeIe = true) : RegisterInvariants { s with edgf := b } :=
  { hs with edgfEnabled := hb }

theorem setXcnt {s : State} (hs : RegisterInvariants s) {n : Exponent} (hn : n < s.xlim) :
    RegisterInvariants { s with xcnt := n } :=
  { hs with xcntBelowLimit := hn }

theorem xlim_pos {s : State} (hs : RegisterInvariants s) : 0 < s.xlim :=
  Nat.zero_lt_of_lt hs.xcntBelowLimit

theorem setFastExponent {s : State} (hs : RegisterInvariants s) {e : Nat} (hlow : 1 ≤ e)
    (hhigh : e ≤ nmax) (hslow : s.active = .slow → e = 1) :
    RegisterInvariants (setFastExponent e s) := by
  have hmax : e ≤ 20 := hhigh
  have hplog : (BitVec.ofNat 5 e).toNat = e := by rw [BitVec.toNat_ofNat]; omega
  have hek := hardwareLimit_toNat e
  have hxlim := softwareLimit_toNat hmax
  exact { hs with
    ekLow := by simp only [setFastExponent_ek, hek]; omega
    ekHigh := by simp only [setFastExponent_ek, hek, hwn]; omega
    xlimOfExponent := by simp only [setFastExponent_xlim, setFastExponent_fPlog, hplog, hxlim, hwn]
    ekOfExponent := by simp only [setFastExponent_ek, setFastExponent_fPlog, hplog, hek, hwn]
    xcntBelowLimit := by
      simp only [setFastExponent_xcnt, setFastExponent_xlim, hxlim]
      exact Nat.two_pow_pos _
    fPlogLow := hlow.trans_eq hplog.symm
    fPlogHigh := hplog.trans_le hhigh
    slowMeansExponentOne := fun h => hplog.trans (hslow h) }

theorem makeFastActive {s : State} (hs : RegisterInvariants s) :
    RegisterInvariants (makeFastActive s) :=
  { hs with
    edgfEnabled := nofun
    edgeIeExactlySlow := ⟨nofun, nofun⟩
    slowMeansExponentOne := nofun }

theorem makeSlowActive {s : State} (hs : RegisterInvariants s) (hone : s.fPlog.toNat = 1) :
    RegisterInvariants (makeSlowActive s) :=
  { hs with
    edgfEnabled := fun _ => rfl
    edgeIeExactlySlow := ⟨fun _ => rfl, fun _ => rfl⟩
    slowMeansExponentOne := fun _ => hone }

theorem setFastExponent_one {s : State} (hs : RegisterInvariants s) :
    RegisterInvariants (Machine.setFastExponent 1 s) :=
  hs.setFastExponent le_rfl (by decide) fun _ => rfl

theorem forceSlow {s : State} (hs : RegisterInvariants s) : RegisterInvariants (forceSlow s) := by
  have hslowReset : RegisterInvariants
      { s with sPeriod := periodMax, sRlog := .zero, sAwait := true, sStart := 0 } := hs.congr rfl
  exact hslowReset.setFastExponent_one.makeSlowActive rfl

theorem escalate {s : State} (hs : RegisterInvariants s) (t : Tick) :
    RegisterInvariants (escalate t s) :=
  hs.setFastExponent_one.makeFastActive.congr rfl

theorem deescalate {s : State} (hs : RegisterInvariants s) (hone : s.fPlog.toNat = 1) (t : Tick)
    (p : Nat) : RegisterInvariants (deescalate t p s) :=
  (hs.makeSlowActive hone).congr rfl

theorem snapshot {s : State} (hs : RegisterInvariants s) : RegisterInvariants (snapshot s) := by
  unfold Machine.snapshot
  split
  · exact { hs with snapNHigh := by simp }
  · exact { hs with snapNHigh := hs.fRlogHigh }

theorem edgeEffect {s : State} (hs : RegisterInvariants s) :
    RegisterInvariants (edgeEffect s) := by
  obtain ⟨hcounted, hie⟩ : RegisterInvariants (countEvent s) ∧ (countEvent s).edgeIe = s.edgeIe := by
    unfold countEvent
    split <;> exact ⟨hs.congr rfl, rfl⟩
  refine hcounted.setEdgf fun h => hie.trans ?_
  obtain hpending | henabled := (Bool.or_eq_true ..).mp h
  · exact hs.edgfEnabled hpending
  · exact henabled

theorem watchdogStep {s : State} (hs : RegisterInvariants s) :
    RegisterInvariants (watchdogStep s) := by
  have hpolled : RegisterInvariants { s with wdog := decrementCountdown s.wdog } := hs.congr rfl
  unfold Machine.watchdogStep
  dsimp only
  split
  · exact hpolled.forceSlow
  · exact hpolled

/-! ### The handlers keep the invariants -/

/-- Branch A may raise the exponent while Slow is active, and then promotes Fast in the same step:
the promotion is put first, which is the same state. -/
theorem adaptStep {s : State} (hs : RegisterInvariants s) (p : Nat) :
    RegisterInvariants (adaptStep s.fPlog.toNat p s) := by
  obtain ⟨hlow, hhigh⟩ := adaptExponent_fst_bounds s.cfg p hs.fPlogLow hs.fPlogHigh
  unfold Machine.adaptStep
  dsimp only
  split
  · exact hs.makeFastActive.setFastExponent hlow hhigh nofun
  · next hstay =>
    refine hs.setFastExponent hlow hhigh fun hslow => ?_
    have hone := hs.slowMeansExponentOne hslow
    rw [hone] at hstay ⊢
    exact adaptExponent_one_fst (by simpa [hslow] using hstay)

theorem modeCheck {s : State} (hs : RegisterInvariants s) (t : Tick) {e : Nat}
    (he : s.fPlog.toNat = e) (p : Nat) : RegisterInvariants (modeCheck t e p s) := by
  unfold Machine.modeCheck
  split_ifs with hdown
  · obtain ⟨-, -, hone⟩ := hdown
    exact hs.deescalate (he.trans hone) t p
  · exact hs.makeFastActive
  · exact hs

/-- The adapted exponent fits its register, so step 6 reads what step 5 computed. -/
theorem adaptStep_fPlog_toNat {s : State} (hs : RegisterInvariants s) (p : Nat) :
    (Machine.adaptStep s.fPlog.toNat p s).fPlog.toNat = (adaptExponent s.cfg s.fPlog.toNat p).1 := by
  have hbound := (adaptExponent_fst_bounds s.cfg p hs.fPlogLow hs.fPlogHigh).2
  rw [adaptStep_fPlog, BitVec.toNat_ofNat]
  exact Nat.mod_eq_of_lt (lt_of_le_of_lt hbound (by decide))

theorem closeFastWindow {s : State} (hs : RegisterInvariants s) (t : Tick) :
    RegisterInvariants (closeFastWindow t s) :=
  { hs with fRlogLow := hs.fPlogLow, fRlogHigh := hs.fPlogHigh }

theorem fireWithPeriod {s : State} (hs : RegisterInvariants s) (t : Tick) :
    RegisterInvariants (fireWithPeriod t s) := by
  have hclosed := hs.closeFastWindow t
  have hplog := hclosed.adaptStep_fPlog_toNat (elapsedTicks t s.fStart).toNat
  exact (hclosed.adaptStep _).modeCheck t hplog _

theorem isrEdge {s : State} (hs : RegisterInvariants s) : RegisterInvariants (isrEdge s) := by
  obtain ⟨-, h⟩ | ⟨-, -, h⟩ | ⟨-, -, h⟩ := isrEdge_cases s <;> rw [h]
  · exact hs.congr rfl
  · exact hs.congr rfl
  · have hstored : RegisterInvariants { s with
        sPeriod := elapsedTicks (nowTick s) s.sStart, sStart := nowTick s, sRlog := .zero } :=
      hs.congr rfl
    exact hstored.escalate _

theorem isrCmp {s : State} (hs : RegisterInvariants s) : RegisterInvariants (isrCmp s) := by
  obtain ⟨hfires, h⟩ | ⟨-, -, h⟩ | ⟨-, -, h⟩ := isrCmp_cases s <;> rw [h]
  · have hbelow : s.xcnt + 1 < s.xlim := by simpa [fires] using hfires
    exact (hs.setXcnt hbelow).congr rfl
  · exact (hs.setXcnt hs.xlim_pos).congr rfl
  · have hcounted : RegisterInvariants { s with wdog := s.cfg.ceiling, xcnt := 0 } :=
      (hs.setXcnt hs.xlim_pos).congr rfl
    exact hcounted.fireWithPeriod _

theorem dispatch {s : State} (hs : RegisterInvariants s) : RegisterInvariants (dispatch s) := by
  obtain ⟨-, h⟩ | ⟨-, h⟩ | ⟨-, h⟩ | ⟨-, h⟩ := dispatch_cases s <;> rw [h]
  · exact (hs.setEdgf (b := false) nofun).isrEdge
  · have hentry : RegisterInvariants { s with cmf := false } := hs.congr rfl
    exact hentry.isrCmp
  · exact hs.congr rfl
  · exact hs

theorem commandEffect {s : State} (hs : RegisterInvariants s) (i : Instr) :
    RegisterInvariants (commandEffect i s) := by
  cases i with
  | edge => exact hs.edgeEffect
  | irq => exact hs.dispatch
  | snap => exact hs.snapshot
  | wdpoll => exact hs.watchdogStep
  | force => exact hs.forceSlow
  | reset => exact resetWith s.cfg s.stream s.pos
  | nop | tick _ | cli | sei | nowa | nowb | nowc | now | freq _ _ | freqs | rd _ =>
    exact hs.congr rfl

end RegisterInvariants

/-- Settles O12: a step is a command's effect and an advance of the position. -/
theorem stepKeepsRegisterInvariants : Obligations.StepKeepsRegisterInvariants := by
  unfold Obligations.StepKeepsRegisterInvariants
  intro s t hs hstep
  obtain ⟨w, i, u, -, -, hexec, rfl⟩ := step_next_iff.1 hstep
  obtain ⟨-, rfl⟩ := exec_next_iff.1 hexec
  exact (hs.commandEffect i).congr rfl

/-- Settles O13: the base case of O12. -/
theorem resetMeetsRegisterInvariants : Obligations.ResetMeetsRegisterInvariants := by
  unfold Obligations.ResetMeetsRegisterInvariants
  exact ⟨.resetWith _ _ _, fun s => ⟨_, rfl, .resetWith s.cfg s.stream s.pos⟩⟩

/-- Settles O10: the reset state is closed, so its registers are read off. -/
theorem resetStateHoldsTheResetValues : Obligations.ResetStateHoldsTheResetValues := by
  unfold Obligations.ResetStateHoldsTheResetValues
  decide

end Sys2Proof.Machine
end

section
/-!
PROOFS. The statements about the register index space and memory (spec/20_memory.md): stored words
(R72), and what a critical section freezes (R79, R59).
-/
namespace Sys2Proof

/-! ### Stored words -/

/-- Decoding stored bytes is decoding the word they hold (R72). -/
theorem decodeBytes_bytesOfWord (w : CommandWord) (rest : List Byte) :
    decodeBytes (bytesOfWord w ++ rest) = some (decode w, rest) := by
  rw [decodeBytes, wordOfBytes_bytesOfWord]

/-- Settles O5: the opcode byte is the head of the stored list, and reading inverts storing. -/
theorem storedWordsAreReadBack : Obligations.StoredWordsAreReadBack := by
  unfold Obligations.StoredWordsAreReadBack
  exact fun w rest => ⟨rfl, wordOfBytes_bytesOfWord w rest, decodeBytes_bytesOfWord w rest⟩

end Sys2Proof

namespace Sys2Proof.Machine

/-! ### Runs of commands -/

theorem runCommands_cons_next_iff {i : Instr} {is : List Instr} {s t : State} :
    runCommands (i :: is) s = .next t ↔
      ∃ u, exec i s = .next u ∧ runCommands is u = .next t := by
  rw [runCommands]
  cases exec i s <;> simp

/-- What every command of a list keeps, a run of the list that completes keeps. -/
theorem runCommands_invariant {Inv : State → Prop} {is : List Instr}
    (hkeep : ∀ i ∈ is, ∀ s, Inv s → Inv (commandEffect i s)) {s t : State} (hs : Inv s)
    (hrun : runCommands is s = .next t) : Inv t := by
  induction is generalizing s with
  | nil =>
    cases hrun
    exact hs
  | cons i rest ih =>
    obtain ⟨u, hexec, hrest⟩ := runCommands_cons_next_iff.1 hrun
    obtain ⟨-, rfl⟩ := exec_next_iff.1 hexec
    rw [List.forall_mem_cons] at hkeep
    obtain ⟨hfirst, hkeepRest⟩ := hkeep
    exact ih hkeepRest (hfirst s hs) hrest

/-! ### What a critical section freezes (R79) -/

theorem dispatch_suppressed {s : State} (h : s.gie = false) : dispatch s = s := by
  rw [dispatch, selectInterrupt_suppressed h]

theorem snapshot_gie (s : State) : (snapshot s).gie = s.gie := by
  unfold snapshot
  split <;> rfl

theorem snapshot_handlerRegisters (s : State) :
    handlerRegisters (snapshot s) = handlerRegisters s := by
  unfold snapshot
  split <;> rfl

/-- An edge reaches only `ECNT`, `CMF` and `EDGF` (R131). -/
theorem edgeEffect_handlerRegisters (s : State) :
    handlerRegisters (edgeEffect s) = handlerRegisters s := by
  unfold edgeEffect countEvent
  split <;> rfl

/-- A forced transition leaves what handlers alone write: Fast's last measurement and its window
(R172). -/
theorem watchdogStep_handlerOnlyRegisters (s : State) :
    handlerOnlyRegisters (watchdogStep s) = handlerOnlyRegisters s := by
  unfold watchdogStep
  dsimp only
  split <;> rfl

/-- The registers that handlers alone write are some of those that `FORCE` and `WDPOLL` may write
too. -/
theorem handlerOnlyRegisters_congr {s t : State} (h : handlerRegisters t = handlerRegisters s) :
    handlerOnlyRegisters t = handlerOnlyRegisters s := by
  simp only [handlerRegisters, Prod.mk.injEq] at h
  simp only [handlerOnlyRegisters, h]

/-- `SEI` alone sets `GIE`: `CLI` and `RESET` clear it, and no other command writes it. -/
theorem commandEffect_gie_of_suppressed {i : Instr} (hi : i ≠ .sei) {s : State}
    (hs : s.gie = false) : (commandEffect i s).gie = false := by
  cases i with
  | sei => exact absurd rfl hi
  | cli | reset => rfl
  | edge => exact (AgreeOffHandlers.edgeEffect s).gie.trans hs
  | irq => exact (AgreeOffHandlers.dispatch s).gie.trans hs
  | snap => exact (snapshot_gie s).trans hs
  | wdpoll => exact (AgreeOffHandlers.watchdogStep s).gie.trans hs
  | nop | tick _ | nowa | nowb | nowc | now | force | freq _ _ | freqs | rd _ => exact hs

/-- With `GIE = 0` a dispatch point runs no handler, and no command here writes a handler's register
itself. -/
theorem commandEffect_handlerRegisters {i : Instr} (hi : leavesHandlerRegisters i = true)
    {s : State} (hs : s.gie = false) :
    handlerRegisters (commandEffect i s) = handlerRegisters s := by
  cases i with
  | irq => exact congrArg handlerRegisters (dispatch_suppressed hs)
  | edge => exact edgeEffect_handlerRegisters s
  | snap => exact snapshot_handlerRegisters s
  | nop | tick _ | cli | nowa | nowb | nowc | now | freq _ _ | freqs | rd _ => rfl
  | sei | wdpoll | force | reset => cases hi

theorem commandEffect_handlerOnlyRegisters {i : Instr} (hsei : i ≠ .sei) (hreset : i ≠ .reset)
    {s : State} (hs : s.gie = false) :
    handlerOnlyRegisters (commandEffect i s) = handlerOnlyRegisters s := by
  cases i with
  | wdpoll => exact watchdogStep_handlerOnlyRegisters s
  | force => rfl
  | sei => exact absurd rfl hsei
  | reset => exact absurd rfl hreset
  | nop | tick _ | edge | irq | cli | nowa | nowb | nowc | now | snap | freq _ _ | freqs | rd _ =>
    exact handlerOnlyRegisters_congr (commandEffect_handlerRegisters rfl hs)

theorem ne_sei_of_leavesHandlerRegisters {i : Instr} (hi : leavesHandlerRegisters i = true) :
    i ≠ .sei := by
  rintro rfl
  cases hi

/-- Settles O55: both clauses are invariants of the run, together with `GIE = 0`, which keeps every
dispatch point from running a handler. -/
theorem criticalSectionFreezesHandlerRegisters :
    Obligations.CriticalSectionFreezesHandlerRegisters := by
  unfold Obligations.CriticalSectionFreezesHandlerRegisters
  intro is s t hs hrun
  constructor
  · intro hcmds
    refine runCommands_invariant
      (Inv := fun u => handlerOnlyRegisters u = handlerOnlyRegisters s ∧ u.gie = false)
      ?_ ⟨rfl, hs⟩ hrun
    rintro i hi u ⟨hregs, hgie⟩
    obtain ⟨hsei, hreset⟩ := hcmds i hi
    exact ⟨(commandEffect_handlerOnlyRegisters hsei hreset hgie).trans hregs,
      commandEffect_gie_of_suppressed hsei hgie⟩
  · intro hcmds
    suffices hboth : handlerRegisters t = handlerRegisters s ∧ t.gie = false from hboth.1
    refine runCommands_invariant
      (Inv := fun u => handlerRegisters u = handlerRegisters s ∧ u.gie = false)
      ?_ ⟨rfl, hs⟩ hrun
    rintro i hi u ⟨hregs, hgie⟩
    have hleaves := hcmds i hi
    exact ⟨(commandEffect_handlerRegisters hleaves hgie).trans hregs,
      commandEffect_gie_of_suppressed (ne_sei_of_leavesHandlerRegisters hleaves) hgie⟩

end Sys2Proof.Machine
end

section
/-!
PROOFS. The statements about the encoding (spec/30_encoding.md): words and commands (R90 to R95),
steps and streams (R91), the text form (R97), and what `DRAIN` serves (R98, R243).
-/
namespace Sys2Proof

open Sys2Proof.Machine

/-! ### The formats of the opcodes (R92) -/

theorem formatOf_eq_none_iff (op : BitVec 8) : formatOf op = none ↔ op.toNat ∉ opcodes := by
  revert op
  decide

theorem formatOf_eq_i_iff (op : BitVec 8) : formatOf op = some .i ↔ op = 0x01 := by
  revert op
  decide

theorem formatOf_eq_a_iff (op : BitVec 8) : formatOf op = some .a ↔ op = 0x30 := by
  revert op
  decide

theorem formatOf_eq_ai_iff (op : BitVec 8) : formatOf op = some .ai ↔ op = 0x28 := by
  revert op
  decide

/-! ### From an opcode and its operands to the command (R92, R93) -/

theorem commandOf_freq_eq_ok_iff {a : BitVec 8} {imm : BitVec 32} {i : Instr} :
    commandOf 0x28 a imm = .ok i ↔ a.toNat ≤ nmax ∧ i = .freq (a.setWidth 5) imm := by
  show (if a.toNat ≤ nmax then Except.ok (Instr.freq (a.setWidth 5) imm) else _) = _ ↔ _
  split_ifs with h <;> simp [h, eq_comm]

theorem commandOf_rd_eq_ok_iff {a : BitVec 8} {imm : BitVec 32} {i : Instr} :
    commandOf 0x30 a imm = .ok i ↔ ∃ r, Reg.ofIndex a = some r ∧ i = .rd r := by
  cases h : Reg.ofIndex a <;> simp [commandOf, h, eq_comm]

theorem commandOf_encode {i : Instr} (hi : i.wellFormed = true) :
    commandOf (opField (encode i)) (aField (encode i)) (immField (encode i)) = .ok i := by
  cases i with
  | tick d => simp [encode, commandOf]
  | freq n ticks =>
    have hn : n.toNat ≤ nmax := by simpa [Instr.wellFormed] using hi
    have hfits : (n.setWidth 8).toNat = n.toNat := by
      rw [BitVec.toNat_setWidth]
      omega
    simp only [encode, opField_wordOf, aField_wordOf, immField_wordOf, commandOf_freq_eq_ok_iff,
      hfits]
    exact ⟨hn, by simp⟩
  | rd r => simp [encode, commandOf, ofIndex_index]
  | nop | edge | irq | cli | sei | nowa | nowb | nowc | now | snap | wdpoll | force | freqs
  | reset => rfl

/-- An opcode of format Z is that of a command without operands (R92). -/
theorem exists_command_of_format_z (op : BitVec 8) (h : formatOf op = some .z) :
    ∃ i ∈ commandsWithoutOperands, i.wellFormed = true ∧ encode i = wordOf op 0 0 := by
  revert op
  decide

/-- A word of format Z with no field set but the opcode is the word of a command. -/
theorem commandOf_of_format_z {op : BitVec 8} (h : formatOf op = some .z) :
    ∃ i, commandOf op 0 0 = .ok i ∧ i.wellFormed = true ∧ encode i = wordOf op 0 0 := by
  obtain ⟨i, -, hwf, hword⟩ := exists_command_of_format_z op h
  have hcommand := commandOf_encode hwf
  rw [hword] at hcommand
  exact ⟨i, by simpa using hcommand, hwf, hword⟩

/-- The operands a format does not use are zero, so the command determines the whole word. -/
theorem encode_of_commandOf {op a : BitVec 8} {imm : BitVec 32} {f : Format} {i : Instr}
    (hf : formatOf op = some f) (ha : f.usesA = false → a = 0) (himm : f.usesImm = false → imm = 0)
    (h : commandOf op a imm = .ok i) : i.wellFormed = true ∧ encode i = wordOf op a imm := by
  cases f with
  | z =>
    obtain rfl := ha rfl
    obtain rfl := himm rfl
    obtain ⟨j, hj, hencoded⟩ := commandOf_of_format_z hf
    obtain rfl : j = i := Except.ok.inj (hj.symm.trans h)
    exact hencoded
  | i =>
    obtain rfl := (formatOf_eq_i_iff op).1 hf
    obtain rfl := ha rfl
    cases h
    exact ⟨rfl, rfl⟩
  | a =>
    obtain rfl := (formatOf_eq_a_iff op).1 hf
    obtain rfl := himm rfl
    obtain ⟨r, hr, rfl⟩ := commandOf_rd_eq_ok_iff.1 h
    exact ⟨rfl, by rw [encode, index_of_ofIndex hr]⟩
  | ai =>
    obtain rfl := (formatOf_eq_ai_iff op).1 hf
    obtain ⟨hle, rfl⟩ := commandOf_freq_eq_ok_iff.1 h
    have hn : a.toNat ≤ 20 := hle
    have hfits : (a.setWidth 5).toNat = a.toNat := by rw [BitVec.toNat_setWidth]; omega
    have hoperand : (a.setWidth 5).setWidth 8 = a :=
      BitVec.eq_of_toNat_eq (by rw [BitVec.toNat_setWidth, hfits]; omega)
    exact ⟨by simpa only [Instr.wellFormed, hfits, decide_eq_true_eq], by rw [encode, hoperand]⟩

/-! ### Decoding and encoding (R93 to R95) -/

/-- A word decodes to a command exactly when its opcode has a format, no unused field is set, and
the operands name that command. -/
theorem decode_eq_ok_iff {w : CommandWord} {i : Instr} :
    decode w = .ok i ↔
      ∃ f, formatOf (opField w) = some f ∧ unusedFieldError f w = none ∧
        commandOf (opField w) (aField w) (immField w) = .ok i := by
  unfold decode
  cases hf : formatOf (opField w) with
  | none => simp
  | some f => cases hu : unusedFieldError f w <;> simp [hu]

/-- The facts proved command by command, for every command. -/
theorem encodedFields (i : Instr) : Laws.EncodedFields.Statement i := by
  cases i with
  | nop => exact Laws.EncodedFields.nop
  | tick d => exact Laws.EncodedFields.tick d
  | edge => exact Laws.EncodedFields.edge
  | irq => exact Laws.EncodedFields.irq
  | cli => exact Laws.EncodedFields.cli
  | sei => exact Laws.EncodedFields.sei
  | nowa => exact Laws.EncodedFields.nowa
  | nowb => exact Laws.EncodedFields.nowb
  | nowc => exact Laws.EncodedFields.nowc
  | now => exact Laws.EncodedFields.now
  | snap => exact Laws.EncodedFields.snap
  | wdpoll => exact Laws.EncodedFields.wdpoll
  | force => exact Laws.EncodedFields.force
  | freq n ticks => exact Laws.EncodedFields.freq n ticks
  | freqs => exact Laws.EncodedFields.freqs
  | rd r => exact Laws.EncodedFields.rd r
  | reset => exact Laws.EncodedFields.reset

/-- Settles O1: the command's own word passes the check of its fields, and its operands name it. -/
theorem decodeInvertsEncode : Obligations.DecodeInvertsEncode := by
  unfold Obligations.DecodeInvertsEncode
  intro i hi
  obtain ⟨f, hformat, hunused⟩ := encodedFields i
  exact decode_eq_ok_iff.2 ⟨f, hformat, hunused, commandOf_encode hi⟩

/-- Settles O2: a word that decodes is the word of its own fields, which are the command's. -/
theorem encodeInvertsDecode : Obligations.EncodeInvertsDecode := by
  unfold Obligations.EncodeInvertsDecode
  intro w i h
  obtain ⟨f, hformat, hunused, hcommand⟩ := decode_eq_ok_iff.1 h
  obtain ⟨hz, ha, himm⟩ := unusedFieldError_eq_none_iff.1 hunused
  obtain ⟨hwf, hword⟩ := encode_of_commandOf hformat ha himm hcommand
  exact ⟨hwf, hword.trans (wordOf_fields hz)⟩

/-- Settles O4: each word of the table is the word of the command beside it; O1 gives the rest. -/
theorem specWordsDecode : Obligations.SpecWordsDecode := by
  unfold Obligations.SpecWordsDecode
  intro p hp
  have hrow : p.1 = encode p.2 ∧ p.2.wellFormed = true := by
    revert p
    decide
  obtain ⟨hword, hwf⟩ := hrow
  rw [hword]
  exact decodeInvertsEncode p.2 hwf

/-! ### Illegal words (R94) -/

theorem ofIndex_eq_none_iff (a : Index) :
    Reg.ofIndex a = none ↔ implementedIndex a.toNat = false := by
  revert a
  decide

theorem opField_toNat (w : CommandWord) : (opField w).toNat = w.toNat / 2 ^ 56 := by
  rw [opField, BitVec.extractLsb'_toNat, Nat.shiftRight_eq_div_pow]
  omega

theorem aField_toNat (w : CommandWord) : (aField w).toNat = w.toNat / 2 ^ 48 % 2 ^ 8 := by
  rw [aField, BitVec.extractLsb'_toNat, Nat.shiftRight_eq_div_pow]

theorem zField_toNat (w : CommandWord) : (zField w).toNat = w.toNat / 2 ^ 32 % 2 ^ 16 := by
  rw [zField, BitVec.extractLsb'_toNat, Nat.shiftRight_eq_div_pow]

theorem immField_toNat (w : CommandWord) : (immField w).toNat = w.toNat % 2 ^ 32 := by
  rw [immField, BitVec.extractLsb'_toNat, Nat.shiftRight_eq_div_pow]
  simp

/-- R94's conditions, over the fields of the word and the format its opcode selects. -/
theorem illegalWord_iff (w : CommandWord) :
    IllegalWord w.toNat ↔
      formatOf (opField w) = none ∨ zField w ≠ 0 ∨
        (formatOf (opField w) ≠ some .ai ∧ formatOf (opField w) ≠ some .a ∧ aField w ≠ 0) ∨
        (formatOf (opField w) ≠ some .i ∧ formatOf (opField w) ≠ some .ai ∧ immField w ≠ 0) ∨
        (formatOf (opField w) = some .ai ∧ 20 < (aField w).toNat) ∨
        (formatOf (opField w) = some .a ∧ implementedIndex (aField w).toNat = false) := by
  simp only [ne_eq, formatOf_eq_none_iff, formatOf_eq_i_iff, formatOf_eq_a_iff, formatOf_eq_ai_iff,
    ← BitVec.toNat_inj, opField_toNat, aField_toNat, zField_toNat, immField_toNat]
  rfl

/-- With the unused fields zero, R94 leaves two conditions: `FREQ`'s exponent and `RD`'s index. -/
theorem commandOf_accepts_iff {op a : BitVec 8} {imm : BitVec 32} {f : Format}
    (hf : formatOf op = some f) (ha : f.usesA = false → a = 0)
    (himm : f.usesImm = false → imm = 0) :
    (∃ i, commandOf op a imm = .ok i) ↔
      (f = .ai → a.toNat ≤ nmax) ∧ (f = .a → implementedIndex a.toNat = true) := by
  cases f with
  | z =>
    obtain rfl := ha rfl
    obtain rfl := himm rfl
    obtain ⟨i, hi, -⟩ := commandOf_of_format_z hf
    exact ⟨fun _ => ⟨nofun, nofun⟩, fun _ => ⟨i, hi⟩⟩
  | i =>
    obtain rfl := (formatOf_eq_i_iff op).1 hf
    exact ⟨fun _ => ⟨nofun, nofun⟩, fun _ => ⟨.tick imm, rfl⟩⟩
  | a =>
    obtain rfl := (formatOf_eq_a_iff op).1 hf
    have hreg : (∃ r, Reg.ofIndex a = some r) ↔ implementedIndex a.toNat = true := by
      rw [← Option.ne_none_iff_exists', ne_eq, ofIndex_eq_none_iff, Bool.not_eq_false]
    simp only [commandOf_rd_eq_ok_iff, ← hreg]
    simp
  | ai =>
    obtain rfl := (formatOf_eq_ai_iff op).1 hf
    simp only [commandOf_freq_eq_ok_iff]
    simp

theorem decode_accepts_iff {w : CommandWord} :
    (∃ i, decode w = .ok i) ↔
      ∃ f, formatOf (opField w) = some f ∧ unusedFieldError f w = none ∧
        (f = .ai → (aField w).toNat ≤ nmax) ∧
        (f = .a → implementedIndex (aField w).toNat = true) := by
  constructor
  · rintro ⟨i, h⟩
    obtain ⟨f, hf, hu, hc⟩ := decode_eq_ok_iff.1 h
    obtain ⟨-, ha, himm⟩ := unusedFieldError_eq_none_iff.1 hu
    exact ⟨f, hf, hu, (commandOf_accepts_iff hf ha himm).1 ⟨i, hc⟩⟩
  · rintro ⟨f, hf, hu, hoperands⟩
    obtain ⟨-, ha, himm⟩ := unusedFieldError_eq_none_iff.1 hu
    obtain ⟨i, hc⟩ := (commandOf_accepts_iff hf ha himm).2 hoperands
    exact ⟨i, decode_eq_ok_iff.2 ⟨f, hf, hu, hc⟩⟩

theorem decode_rejects_iff {w : CommandWord} :
    (∃ why, decode w = .error why) ↔ ¬ ∃ i, decode w = .ok i := by
  cases decode w <;> simp

/-- Format by format, R94's list is what the decoder's checks leave out. -/
theorem illegalWord_iff_rejected (w : CommandWord) :
    IllegalWord w.toNat ↔ ∃ why, decode w = .error why := by
  rw [illegalWord_iff, decode_rejects_iff, decode_accepts_iff]
  cases hf : formatOf (opField w) with
  | none => simp
  | some f =>
    cases f <;> simp [unusedFieldError_eq_none_iff, Format.usesA, Format.usesImm, nmax] <;> tauto

theorem step_refuses_rejected {s : State} {w : CommandWord} {why : Illegal}
    (hw : s.stream[s.pos]? = some w) (hwhy : decode w = .error why) :
    step s = .refused (.flt1IllegalCommand why) := by
  simp only [step, fetchWord, hw, hwhy]

/-- Settles O3: a step at a rejected word ends before any command runs. -/
theorem illegalWordsAreRefused : Obligations.IllegalWordsAreRefused := by
  unfold Obligations.IllegalWordsAreRefused
  refine fun w => ⟨illegalWord_iff_rejected w, fun s hw hillegal => ?_⟩
  obtain ⟨why, hwhy⟩ := (illegalWord_iff_rejected w).1 hillegal
  exact ⟨why, step_refuses_rejected hw hwhy⟩

end Sys2Proof

namespace Sys2Proof.Machine

/-! ### One step (R91) -/

/-- No command moves the position, so a step moves it by exactly one. -/
theorem advancePos_commandEffect (i : Instr) (s : State) :
    advancePos (commandEffect i s) = { commandEffect i s with pos := s.pos + 1 } := by
  obtain ⟨-, hpos, -⟩ := commandEffect_ownFields i s
  rw [advancePos, hpos]

theorem step_of_exec_next {s t : State} {w : CommandWord} {i : Instr} (hw : fetchWord s = some w)
    (hi : decode w = .ok i) (hexec : exec i s = .next t) :
    step s = .next { t with pos := s.pos + 1 } := by
  obtain ⟨-, rfl⟩ := exec_next_iff.1 hexec
  exact step_next_iff.2 ⟨w, i, _, hw, hi, hexec, (advancePos_commandEffect i s).symm⟩

/-- Settles O7, by the outcome of the command. -/
theorem stepRunsTheDecodedCommand : Obligations.StepRunsTheDecodedCommand := by
  unfold Obligations.StepRunsTheDecodedCommand
  intro s w i hw hi
  have hfetch : fetchWord s = some w := hw
  cases hexec : exec i s with
  | next t => exact step_of_exec_next hfetch hi hexec
  | fault r => simp only [step, hfetch, hi, hexec]
  | refused r => simp only [step, hfetch, hi, hexec]

/-! ### The position is not seen by commands -/

/-- The state with its position in the stream moved to `p`. -/
def atPos (p : Nat) (s : State) : State := { s with pos := p }

theorem adaptStep_atPos (e p q : Nat) (s : State) :
    adaptStep e p (atPos q s) = atPos q (adaptStep e p s) := by
  unfold adaptStep
  dsimp only
  rw [apply_ite (atPos q)]
  rfl

theorem modeCheck_atPos (t : Tick) (e p q : Nat) (s : State) :
    modeCheck t e p (atPos q s) = atPos q (modeCheck t e p s) := by
  unfold modeCheck
  rw [apply_ite (atPos q), apply_ite (atPos q)]
  rfl

theorem fireWithPeriod_atPos (t : Tick) (q : Nat) (s : State) :
    fireWithPeriod t (atPos q s) = atPos q (fireWithPeriod t s) := by
  have hclosed : closeFastWindow t (atPos q s) = atPos q (closeFastWindow t s) := rfl
  unfold fireWithPeriod
  dsimp only
  rw [hclosed, adaptStep_atPos, modeCheck_atPos]
  rfl

theorem isrEdge_atPos (q : Nat) (s : State) : isrEdge (atPos q s) = atPos q (isrEdge s) := by
  unfold isrEdge closeSlowWindow
  rw [apply_ite (atPos q)]
  dsimp only
  rw [apply_ite (atPos q)]
  rfl

theorem isrCmp_atPos (q : Nat) (s : State) : isrCmp (atPos q s) = atPos q (isrCmp s) := by
  unfold isrCmp fire
  dsimp only
  rw [apply_ite (atPos q), apply_ite (atPos q), ← fireWithPeriod_atPos]
  rfl

theorem dispatch_atPos (q : Nat) (s : State) : dispatch (atPos q s) = atPos q (dispatch s) := by
  have hselect : selectInterrupt (atPos q s) = selectInterrupt s := rfl
  unfold dispatch
  rw [hselect]
  cases selectInterrupt s with
  | none => rfl
  | some src =>
    cases src with
    | edgeDetect => exact isrEdge_atPos q { s with edgf := false }
    | compareMatch => exact isrCmp_atPos q { s with cmf := false }
    | clockOverflow => rfl

theorem countEvent_atPos (q : Nat) (s : State) :
    countEvent (atPos q s) = atPos q (countEvent s) := by
  unfold countEvent
  rw [apply_ite (atPos q)]
  rfl

theorem edgeEffect_atPos (q : Nat) (s : State) :
    edgeEffect (atPos q s) = atPos q (edgeEffect s) := by
  unfold edgeEffect
  rw [countEvent_atPos]
  rfl

theorem watchdogStep_atPos (q : Nat) (s : State) :
    watchdogStep (atPos q s) = atPos q (watchdogStep s) := by
  unfold watchdogStep
  dsimp only
  rw [apply_ite (atPos q)]
  rfl

theorem snapshot_atPos (q : Nat) (s : State) : snapshot (atPos q s) = atPos q (snapshot s) := by
  have hactive : (atPos q s).active = s.active := rfl
  unfold snapshot
  rw [hactive]
  cases s.active <;> rfl

theorem commandEffect_atPos (i : Instr) (q : Nat) (s : State) :
    commandEffect i (atPos q s) = atPos q (commandEffect i s) := by
  cases i with
  | edge => exact edgeEffect_atPos q s
  | irq => exact dispatch_atPos q s
  | snap => exact snapshot_atPos q s
  | wdpoll => exact watchdogStep_atPos q s
  | rd r => cases r <;> rfl
  | nop | tick _ | cli | sei | nowa | nowb | nowc | now | force | freq _ _ | freqs | reset => rfl

/-- No command sees the position (R21). -/
theorem exec_atPos_next {i : Instr} {s t : State} (q : Nat) (h : exec i s = .next t) :
    exec i (atPos q s) = .next (atPos q t) := by
  obtain ⟨hguard, rfl⟩ := exec_next_iff.1 h
  exact exec_next_iff.2 ⟨hguard, commandEffect_atPos i q s⟩

theorem runCommands_atPos_next {is : List Instr} {s t : State} (q : Nat)
    (h : runCommands is s = .next t) : runCommands is (atPos q s) = .next (atPos q t) := by
  induction is generalizing s with
  | nil =>
    cases h
    rfl
  | cons i rest ih =>
    obtain ⟨u, hexec, hrest⟩ := runCommands_cons_next_iff.1 h
    exact runCommands_cons_next_iff.2 ⟨atPos q u, exec_atPos_next q hexec, ih hrest⟩

/-- A step at the word of a well-formed command is that command, one position on. -/
theorem step_of_encoded {s t : State} {i : Instr} (hi : i.wellFormed = true)
    (hw : fetchWord s = some (encode i)) (hexec : exec i s = .next t) :
    step s = .next (atPos (s.pos + 1) t) :=
  step_of_exec_next hw (decodeInvertsEncode i hi) hexec

theorem run_succ_of_step {k : Nat} {s t : State} (h : step s = .next t) :
    Host.Core.run core (k + 1) s = Host.Core.run core k t := by
  have hcore : core.step s = .next t := h
  simp only [Host.Core.run, hcore]

/-- The stream from the position on decides what the steps do; each step leaves the rest of it. -/
theorem run_encoded {is : List Instr} {after : List CommandWord} {s t : State}
    (hwf : ∀ i ∈ is, i.wellFormed = true)
    (hstream : s.stream.drop s.pos = is.map encode ++ after) (hrun : runCommands is s = .next t) :
    Host.Core.run core is.length s = .next (atPos (s.pos + is.length) t) := by
  induction is generalizing s t with
  | nil =>
    cases hrun
    rfl
  | cons i rest ih =>
    obtain ⟨hi, hrest⟩ := List.forall_mem_cons.1 hwf
    obtain ⟨u, hexec, hrunRest⟩ := runCommands_cons_next_iff.1 hrun
    have hfetch : fetchWord s = some (encode i) := by
      rw [fetchWord, ← List.head?_drop, hstream]
      rfl
    have hustream : u.stream = s.stream := by
      obtain ⟨-, rfl⟩ := exec_next_iff.1 hexec
      exact (commandEffect_ownFields i s).1
    have hremaining : u.stream.drop (s.pos + 1) = rest.map encode ++ after := by
      rw [hustream, ← List.tail_drop, hstream]
      rfl
    have hnext := ih (s := atPos (s.pos + 1) u) hrest hremaining
      (runCommands_atPos_next (s.pos + 1) hrunRest)
    have hpos : s.pos + 1 + rest.length = s.pos + (i :: rest).length := by
      rw [List.length_cons]
      omega
    calc Host.Core.run core (i :: rest).length s
        = Host.Core.run core rest.length (atPos (s.pos + 1) u) :=
          run_succ_of_step (step_of_encoded hi hfetch hexec)
      _ = .next (atPos (s.pos + 1 + rest.length) t) := hnext
      _ = .next (atPos (s.pos + (i :: rest).length) t) := by rw [hpos]

/-- Settles O8: what stands before the position plays no part. -/
theorem streamRunsCommandByCommand : Obligations.StreamRunsCommandByCommand := by
  unfold Obligations.StreamRunsCommandByCommand
  intro is before after s t hwf hstream hpos hrun
  have hremaining : s.stream.drop s.pos = is.map encode ++ after := by
    rw [hstream, hpos, List.append_assoc, List.drop_left]
  exact run_encoded hwf hremaining hrun

/-! ### What is pending is served (R98, R243) -/

/-- No handler body raises an interrupt flag; a mode switch in one clears `EDGF` (R30). -/
structure RaisesNoFlag (s t : State) : Prop where
  cmf : t.cmf = s.cmf
  tov : t.tov = s.tov
  edge : t.edgf = false ∨ (t.edgf = s.edgf ∧ t.edgeIe = s.edgeIe)

namespace RaisesNoFlag

theorem refl (s : State) : RaisesNoFlag s s := ⟨rfl, rfl, .inr ⟨rfl, rfl⟩⟩

theorem trans {s t u : State} (h : RaisesNoFlag s t) (k : RaisesNoFlag t u) : RaisesNoFlag s u := by
  refine ⟨k.cmf.trans h.cmf, k.tov.trans h.tov, ?_⟩
  obtain hclear | ⟨hedgf, hie⟩ := k.edge
  · exact .inl hclear
  · rw [hedgf, hie]
    exact h.edge

theorem setFastExponent (e : Nat) (s : State) : RaisesNoFlag s (setFastExponent e s) :=
  ⟨rfl, rfl, .inr ⟨rfl, rfl⟩⟩

theorem makeFastActive (s : State) : RaisesNoFlag s (makeFastActive s) :=
  ⟨rfl, rfl, .inl rfl⟩

theorem adaptStep (e p : Nat) (s : State) : RaisesNoFlag s (adaptStep e p s) := by
  unfold Machine.adaptStep
  dsimp only
  split
  · exact (setFastExponent _ s).trans (makeFastActive _)
  · exact setFastExponent _ s

theorem modeCheck (t : Tick) (e p : Nat) (s : State) : RaisesNoFlag s (modeCheck t e p s) := by
  unfold Machine.modeCheck
  split_ifs
  · exact ⟨rfl, rfl, .inl rfl⟩
  · exact makeFastActive s
  · exact refl s

theorem fireWithPeriod (t : Tick) (s : State) : RaisesNoFlag s (fireWithPeriod t s) := by
  have hclosed : RaisesNoFlag s (closeFastWindow t s) := ⟨rfl, rfl, .inr ⟨rfl, rfl⟩⟩
  exact (hclosed.trans (adaptStep _ _ _)).trans (modeCheck t _ _ _)

theorem isrEdge (s : State) : RaisesNoFlag s (isrEdge s) := by
  obtain ⟨-, h⟩ | ⟨-, -, h⟩ | ⟨-, -, h⟩ := isrEdge_cases s <;> rw [h]
  · exact ⟨rfl, rfl, .inr ⟨rfl, rfl⟩⟩
  · exact ⟨rfl, rfl, .inr ⟨rfl, rfl⟩⟩
  · exact ⟨rfl, rfl, .inl rfl⟩

theorem isrCmp (s : State) : RaisesNoFlag s (isrCmp s) := by
  obtain ⟨-, h⟩ | ⟨-, -, h⟩ | ⟨-, -, h⟩ := isrCmp_cases s <;> rw [h]
  · exact ⟨rfl, rfl, .inr ⟨rfl, rfl⟩⟩
  · exact ⟨rfl, rfl, .inr ⟨rfl, rfl⟩⟩
  · have hcounted : RaisesNoFlag s { s with wdog := s.cfg.ceiling, xcnt := 0 } :=
      ⟨rfl, rfl, .inr ⟨rfl, rfl⟩⟩
    exact hcounted.trans (fireWithPeriod _ _)

theorem handlerBody (src : IntSource) (s : State) : RaisesNoFlag s (handlerBody src s) := by
  cases src with
  | edgeDetect => exact isrEdge s
  | compareMatch => exact isrCmp s
  | clockOverflow => exact ⟨rfl, rfl, .inr ⟨rfl, rfl⟩⟩

end RaisesNoFlag

theorem bit_true : bit true = 1 := rfl

theorem bit_false : bit false = 0 := rfl

theorem bit_le_one (b : Bool) : bit b ≤ 1 := by cases b <;> decide

theorem bit_eq_zero_iff (b : Bool) : bit b = 0 ↔ b = false := by cases b <;> decide

/-- How many of the three interrupt flags are set. -/
def pendingCount (s : State) : Nat := bit s.edgf + bit s.cmf + bit s.tov

theorem pendingCount_le_three (s : State) : pendingCount s ≤ 3 := by
  have := bit_le_one s.edgf
  have := bit_le_one s.cmf
  have := bit_le_one s.tov
  unfold pendingCount
  omega

theorem pendingCount_eq_zero_iff {s : State} :
    pendingCount s = 0 ↔ s.edgf = false ∧ s.cmf = false ∧ s.tov = false := by
  simp only [pendingCount, Nat.add_eq_zero_iff, bit_eq_zero_iff, and_assoc]

theorem RaisesNoFlag.pendingCount_le {s t : State} (h : RaisesNoFlag s t) :
    pendingCount t ≤ pendingCount s := by
  unfold pendingCount
  rw [h.cmf, h.tov]
  obtain hclear | ⟨hedgf, -⟩ := h.edge
  · rw [hclear, bit_false]
    omega
  · rw [hedgf]

/-- Whatever is pending is enabled: interrupts are not suppressed, and `EDGF` is set only while
`EDGE_IE` is (R58). -/
structure PendingEnabled (s : State) : Prop where
  gie : s.gie = true
  edgeIe : s.edgf = true → s.edgeIe = true

theorem selectInterrupt_eq_none_iff {s : State} (hs : PendingEnabled s) :
    selectInterrupt s = none ↔ pendingCount s = 0 := by
  obtain ⟨hgie, hedge⟩ := hs
  rw [pendingCount_eq_zero_iff]
  unfold selectInterrupt
  split_ifs with h1 h2 h3 h4 <;> simp_all

theorem dispatch_of_select {s : State} {src : IntSource} (h : selectInterrupt s = some src) :
    dispatch s = handlerBody src (enterInterrupt src s) := by
  rw [dispatch, h]
  rfl

theorem dispatch_of_nothing_pending {s : State} (hs : PendingEnabled s) (h : pendingCount s = 0) :
    dispatch s = s := by
  rw [dispatch, (selectInterrupt_eq_none_iff hs).2 h]

/-- Entry clears the flag of the selected source, which was set (R244). -/
theorem enterInterrupt_pendingCount {s : State} {src : IntSource}
    (h : selectInterrupt s = some src) :
    pendingCount (enterInterrupt src s) + 1 = pendingCount s := by
  cases src with
  | edgeDetect =>
    obtain ⟨-, hset, -⟩ := selectInterrupt_edgeDetect_iff.1 h
    simp only [pendingCount, enterInterrupt, hset, bit_true, bit_false]
    omega
  | compareMatch =>
    obtain ⟨-, -, hset⟩ := selectInterrupt_compareMatch_iff.1 h
    simp only [pendingCount, enterInterrupt, hset, bit_true, bit_false]
    omega
  | clockOverflow =>
    obtain ⟨-, -, -, hset⟩ := selectInterrupt_clockOverflow_iff.1 h
    simp only [pendingCount, enterInterrupt, hset, bit_true, bit_false]

theorem dispatch_pendingEnabled {s : State} (hs : PendingEnabled s) :
    PendingEnabled (dispatch s) := by
  obtain ⟨hgie, hedge⟩ := hs
  refine ⟨(AgreeOffHandlers.dispatch s).gie.trans hgie, ?_⟩
  cases hsel : selectInterrupt s with
  | none => rwa [dispatch, hsel]
  | some src =>
    rw [dispatch_of_select hsel]
    have hentry : (enterInterrupt src s).edgf = true → (enterInterrupt src s).edgeIe = true := by
      cases src with
      | edgeDetect => nofun
      | compareMatch | clockOverflow => exact hedge
    obtain hclear | ⟨hedgf, hie⟩ := (RaisesNoFlag.handlerBody src (enterInterrupt src s)).edge
    · simp [hclear]
    · rwa [hedgf, hie]

/-- A dispatch point serves one of the pending interrupts, and raises none. -/
theorem dispatch_pendingCount {s : State} (hs : PendingEnabled s) :
    pendingCount (dispatch s) ≤ pendingCount s - 1 := by
  cases hsel : selectInterrupt s with
  | none =>
    have hzero := (selectInterrupt_eq_none_iff hs).1 hsel
    rw [dispatch_of_nothing_pending hs hzero, hzero]
  | some src =>
    have hentry := enterInterrupt_pendingCount hsel
    have hbody := (RaisesNoFlag.handlerBody src (enterInterrupt src s)).pendingCount_le
    rw [dispatch_of_select hsel]
    omega

theorem runCommands_drain (s : State) :
    runCommands drain s = .next (dispatch (dispatch (dispatch s))) := by
  have hirq (u : State) : exec .irq u = .next (dispatch u) := execIrq_eq u
  simp only [drain, runCommands, hirq]

/-- Settles O53: each of the three dispatches takes one from the count of pending interrupts, which
is at most three. -/
theorem drainServesEverything : Obligations.DrainServesEverything := by
  unfold Obligations.DrainServesEverything
  intro s hgie hedge
  have h0 : PendingEnabled s := ⟨hgie, hedge⟩
  have h1 := dispatch_pendingEnabled h0
  have h2 := dispatch_pendingEnabled h1
  have h3 := dispatch_pendingEnabled h2
  have hzero : pendingCount (dispatch (dispatch (dispatch s))) = 0 := by
    have := pendingCount_le_three s
    have := dispatch_pendingCount h0
    have := dispatch_pendingCount h1
    have := dispatch_pendingCount h2
    omega
  obtain ⟨hedgf, hcmf, htov⟩ := pendingCount_eq_zero_iff.1 hzero
  have hidle : exec .irq (dispatch (dispatch (dispatch s))) =
      .next (dispatch (dispatch (dispatch s))) := by
    refine (execIrq_eq _).trans ?_
    rw [dispatch_of_nothing_pending h3 hzero]
  exact ⟨_, runCommands_drain s, hedgf, hcmf, htov, h3.gie, hidle⟩

/-! ### Numbers (R97) -/

theorem decimalDigit_ofNat {v : Nat} (hv : v < 10) :
    decimalDigit (Char.ofNat (48 + v)) = some v := by
  interval_cases v <;> decide

theorem digitsValue_append (base : Nat) (digit : Char → Option Nat) (acc : Nat) (t u : Text) :
    digitsValue base digit acc (t ++ u) =
      (digitsValue base digit acc t).bind fun v => digitsValue base digit v u := by
  induction t generalizing acc with
  | nil => rfl
  | cons c rest ih =>
    rw [List.cons_append, digitsValue, digitsValue]
    cases digit c with
    | none => rfl
    | some v => exact ih _

/-- A run of characters that is read as a number holds digits only. -/
theorem digit_of_digitsValue {base : Nat} {digit : Char → Option Nat} {acc n : Nat} {t : Text}
    (h : digitsValue base digit acc t = some n) : ∀ c ∈ t, digit c ≠ none := by
  induction t generalizing acc with
  | nil => nofun
  | cons c rest ih =>
    rw [digitsValue] at h
    cases hc : digit c with
    | none => simp [hc] at h
    | some v =>
      simp only [hc] at h
      exact List.forall_mem_cons.2 ⟨by simp [hc], ih h⟩

theorem decimalText_ne_nil {fuel : Nat} (hfuel : 0 < fuel) (n : Nat) : decimalText fuel n ≠ [] := by
  cases fuel with
  | zero => omega
  | succ fuel =>
    unfold decimalText
    split <;> simp

/-- Reading inverts writing, for a number that the fuel has digits for. -/
theorem digitsValue_decimalText {fuel n : Nat} (hfuel : 0 < fuel) (hn : n < 10 ^ fuel) :
    digitsValue 10 decimalDigit 0 (decimalText fuel n) = some n := by
  induction fuel generalizing n with
  | zero => omega
  | succ fuel ih =>
    unfold decimalText
    split
    · next hsmall => simp [digitsValue, decimalDigit_ofNat hsmall]
    · next hlarge =>
      have hquot : n / 10 < 10 ^ fuel := by
        rw [pow_succ] at hn
        omega
      have hfuel : 0 < fuel := by
        refine Nat.pos_of_ne_zero fun hzero => ?_
        rw [hzero] at hquot
        omega
      have hdigit := decimalDigit_ofNat (Nat.mod_lt n (by decide : 0 < 10))
      have hsum : 10 * (n / 10) + n % 10 = n := Nat.div_add_mod n 10
      simp [digitsValue_append, ih hfuel hquot, digitsValue, hdigit, hsum]

/-- A run of decimal digits is read as a decimal number: its second character is no `x`. -/
theorem numberOfText_of_digitsValue {t : Text} {n : Nat} (ht : t ≠ [])
    (h : digitsValue 10 decimalDigit 0 t = some n) : numberOfText t = some n := by
  unfold numberOfText
  split
  · exact absurd rfl ht
  · cases h
  · cases h
  · exact h

theorem numberOfText_decimalText {fuel n : Nat} (hfuel : 0 < fuel) (hn : n < 10 ^ fuel) :
    numberOfText (decimalText fuel n) = some n :=
  numberOfText_of_digitsValue (decimalText_ne_nil hfuel n) (digitsValue_decimalText hfuel hn)

/-! ### Operands (R97) -/

theorem toNat_lt_ten_digits (v : BitVec 32) : v.toNat < 10 ^ 10 :=
  v.isLt.trans (by decide)

theorem wordOfText_operandText (v : BitVec 32) : wordOfText (operandText v) = some v := by
  have hnumber := numberOfText_decimalText (by decide) (toNat_lt_ten_digits v)
  simp [wordOfText, operandText, hnumber, v.isLt]

theorem exponentOfText_decimalText {n : Exponent} (hn : n.toNat ≤ nmax) :
    exponentOfText (decimalText 2 n.toNat) = some n := by
  have hdigits : n.toNat < 10 ^ 2 := n.isLt.trans (by decide)
  have hnumber := numberOfText_decimalText (by decide) hdigits
  simp [exponentOfText, hnumber, hn]

theorem registerOfText_registerName (r : Reg) : registerOfText (registerName r) = some r := by
  have hfound : Reg.all.find? (fun q => registerName q == registerName r) = some r := by
    cases r <;> decide
  rw [registerOfText, hfound]

/-! ### The parts of a written line -/

/-- A word of a line: not empty, and no blank, comma or semicolon in it. -/
def isBare (t : Text) : Bool :=
  !t.isEmpty && t.all fun c => !isBlank c && c != ',' && c != ';'

theorem isBare_iff {t : Text} :
    isBare t = true ↔ t ≠ [] ∧ ∀ c ∈ t, isBlank c = false ∧ c ≠ ',' ∧ c ≠ ';' := by
  simp [isBare, and_assoc]

/-- A text that neither `trim` nor `withoutComment` shortens, and that is not empty. -/
structure IsTrimmed (t : Text) : Prop where
  ne_nil : t ≠ []
  head : ∀ c ∈ t.head?, isBlank c = false
  last : ∀ c ∈ t.getLast?, isBlank c = false
  noComment : ∀ c ∈ t, c ≠ ';'

theorem noBlank_of_isBare {t : Text} (h : isBare t = true) : ∀ c ∈ t, isBlank c = false := by
  obtain ⟨-, hchars⟩ := isBare_iff.1 h
  intro c hc
  obtain ⟨hblank, -, -⟩ := hchars c hc
  exact hblank

theorem noComma_of_isBare {t : Text} (h : isBare t = true) : ∀ c ∈ t, c ≠ ',' := by
  obtain ⟨-, hchars⟩ := isBare_iff.1 h
  intro c hc
  obtain ⟨-, hcomma, -⟩ := hchars c hc
  exact hcomma

theorem isTrimmed_of_isBare {t : Text} (h : isBare t = true) : IsTrimmed t := by
  obtain ⟨hne, hchars⟩ := isBare_iff.1 h
  exact
    { ne_nil := hne
      head := fun c hc => noBlank_of_isBare h c (List.mem_of_mem_head? hc)
      last := fun c hc => noBlank_of_isBare h c (List.mem_of_mem_getLast? hc)
      noComment := fun c hc => by
        obtain ⟨-, -, hcomment⟩ := hchars c hc
        exact hcomment }

theorem IsTrimmed.append {t u : Text} (ht : IsTrimmed t) (hu : IsTrimmed u) (sep : Text)
    (hsep : ∀ c ∈ sep, c ≠ ';') : IsTrimmed (t ++ (sep ++ u)) where
  ne_nil := by simp [ht.ne_nil]
  head := by
    rw [List.head?_append_of_ne_nil t ht.ne_nil]
    exact ht.head
  last := by
    rw [List.getLast?_append_of_ne_nil _ (by simp [hu.ne_nil]),
      List.getLast?_append_of_ne_nil _ hu.ne_nil]
    exact hu.last
  noComment := by
    simp only [List.forall_mem_append]
    exact ⟨ht.noComment, hsep, hu.noComment⟩

theorem dropWhile_isBlank {t : Text} (h : ∀ c ∈ t.head?, isBlank c = false) :
    t.dropWhile isBlank = t := by
  cases t with
  | nil => rfl
  | cons c rest => rw [List.dropWhile_cons_of_neg (by simp [h c rfl])]

theorem IsTrimmed.trim_eq {t : Text} (h : IsTrimmed t) : trim t = t := by
  have hreverse : t.reverse.dropWhile isBlank = t.reverse :=
    dropWhile_isBlank (by rw [List.head?_reverse]; exact h.last)
  rw [trim, dropWhile_isBlank h.head, hreverse, List.reverse_reverse]

theorem IsTrimmed.withoutComment_eq {t : Text} (h : IsTrimmed t) : withoutComment t = t :=
  List.takeWhile_eq_self_iff.2 fun c hc => by simp [h.noComment c hc]

theorem trim_blank_cons (t : Text) : trim (' ' :: t) = trim t := rfl

theorem isBare_decimalText {fuel n : Nat} (hfuel : 0 < fuel) (hn : n < 10 ^ fuel) :
    isBare (decimalText fuel n) = true := by
  refine isBare_iff.2 ⟨decimalText_ne_nil hfuel n, fun c hc => ?_⟩
  have hdigit := digit_of_digitsValue (digitsValue_decimalText hfuel hn) c hc
  have hnone : ∀ d ∈ [' ', '\t', ',', ';'], decimalDigit d = none := by simp [decimalDigit]
  have hother : ∀ d ∈ [' ', '\t', ',', ';'], c ≠ d := by
    rintro d hd rfl
    exact hdigit (hnone c hd)
  simpa [isBlank, and_assoc] using hother

theorem isBare_operandText (v : BitVec 32) : isBare (operandText v) = true :=
  isBare_decimalText (by decide) (toNat_lt_ten_digits v)

theorem isBare_mnemonic (i : Instr) : isBare (mnemonic i) = true := by
  cases i <;> rfl

theorem isBare_registerName (r : Reg) : isBare (registerName r) = true := by
  cases r <;> decide

theorem splitOperands_last {t : Text} (h : ∀ c ∈ t, c ≠ ',') (current : Text) :
    splitOperands current t = [trim (current.reverse ++ t)] := by
  induction t generalizing current with
  | nil => simp [splitOperands]
  | cons c rest ih =>
    obtain ⟨hc, hrest⟩ := List.forall_mem_cons.1 h
    simp [splitOperands, hc, ih hrest]

theorem splitOperands_comma {t : Text} (h : ∀ c ∈ t, c ≠ ',') (current u : Text) :
    splitOperands current (t ++ ',' :: u) =
      trim (current.reverse ++ t) :: splitOperands [] u := by
  induction t generalizing current with
  | nil => simp [splitOperands]
  | cons c rest ih =>
    obtain ⟨hc, hrest⟩ := List.forall_mem_cons.1 h
    simp [splitOperands, hc, ih hrest]

theorem operandsOfText_nil : operandsOfText [] = [] := rfl

theorem operandsOfText_blank_cons {t : Text} (h : IsTrimmed t) :
    operandsOfText (' ' :: t) = splitOperands [] t := by
  unfold operandsOfText
  rw [trim_blank_cons, h.trim_eq]
  cases t with
  | nil => exact absurd rfl h.ne_nil
  | cons c rest => rfl

theorem splitOperands_one {x : Text} (hx : isBare x = true) : splitOperands [] x = [x] := by
  have htrim : trim x = x := (isTrimmed_of_isBare hx).trim_eq
  rw [splitOperands_last (noComma_of_isBare hx), List.reverse_nil, List.nil_append, htrim]

theorem splitOperands_two {x y : Text} (hx : isBare x = true) (hy : isBare y = true) :
    splitOperands [] (x ++ ',' :: ' ' :: y) = [x, y] := by
  have hxtrim : trim x = x := (isTrimmed_of_isBare hx).trim_eq
  have hytrim : trim y = y := (isTrimmed_of_isBare hy).trim_eq
  have hblank : ∀ c ∈ ' ' :: y, c ≠ ',' :=
    List.forall_mem_cons.2 ⟨by decide, noComma_of_isBare hy⟩
  rw [splitOperands_comma (noComma_of_isBare hx), splitOperands_last hblank, List.reverse_nil,
    List.nil_append, List.nil_append, trim_blank_cons, hxtrim, hytrim]

theorem takeWhile_bare {name : Text} (h : isBare name = true) (t : Text) :
    (name ++ t).takeWhile (fun c => !isBlank c) = name ++ t.takeWhile (fun c => !isBlank c) :=
  List.takeWhile_append_of_pos fun c hc => by simp [noBlank_of_isBare h c hc]

theorem dropWhile_bare {name : Text} (h : isBare name = true) (t : Text) :
    (name ++ t).dropWhile (fun c => !isBlank c) = t.dropWhile (fun c => !isBlank c) :=
  List.dropWhile_append_of_pos fun c hc => by simp [noBlank_of_isBare h c hc]

/-- A line without a comment and without blanks at its ends is cut at its first blank. -/
theorem assembleLine_of_isTrimmed {line : Text} {i : Instr} (hline : IsTrimmed line)
    (h : commandOfText (line.takeWhile fun c => !isBlank c)
      (operandsOfText (line.dropWhile fun c => !isBlank c)) = some i) :
    assembleLine line = some [i] := by
  have hne := hline.ne_nil
  unfold assembleLine
  rw [hline.withoutComment_eq, hline.trim_eq]
  split
  · exact absurd rfl hne
  · simp only [h]

theorem assembleLine_mnemonic_operands {name rest : Text} {i : Instr} (hname : isBare name = true)
    (hrest : IsTrimmed rest) (h : commandOfText name (splitOperands [] rest) = some i) :
    assembleLine (name ++ ' ' :: rest) = some [i] := by
  have hline : IsTrimmed (name ++ ' ' :: rest) :=
    (isTrimmed_of_isBare hname).append hrest [' '] (by simp)
  have hword : (name ++ ' ' :: rest).takeWhile (fun c => !isBlank c) = name := by
    rw [takeWhile_bare hname]
    exact List.append_nil name
  have hoperands : (name ++ ' ' :: rest).dropWhile (fun c => !isBlank c) = ' ' :: rest := by
    rw [dropWhile_bare hname]
    rfl
  refine assembleLine_of_isTrimmed hline ?_
  rw [hword, hoperands, operandsOfText_blank_cons hrest, h]

theorem assembleLine_mnemonic {name : Text} {i : Instr} (hname : isBare name = true)
    (h : commandOfText name [] = some i) : assembleLine name = some [i] := by
  have hword : name.takeWhile (fun c => !isBlank c) = name := by
    simpa using takeWhile_bare hname []
  have hoperands : name.dropWhile (fun c => !isBlank c) = [] := by
    simpa using dropWhile_bare hname []
  refine assembleLine_of_isTrimmed (isTrimmed_of_isBare hname) ?_
  rw [hword, hoperands, operandsOfText_nil, h]

theorem commandOfText_tick {x : Text} {d : BitVec 32} (hx : wordOfText x = some d) :
    commandOfText "TICK".toList [x] = some (.tick d) :=
  congrArg (Option.map Instr.tick) hx

theorem commandOfText_rd {x : Text} {r : Reg} (hx : registerOfText x = some r) :
    commandOfText "RD".toList [x] = some (.rd r) :=
  congrArg (Option.map Instr.rd) hx

theorem commandOfText_freq {x y : Text} {n : Exponent} {ticks : BitVec 32}
    (hx : exponentOfText x = some n) (hy : wordOfText y = some ticks) :
    commandOfText "FREQ".toList [x, y] = some (.freq n ticks) := by
  rw [commandOfText, if_pos rfl, hx, hy]

/-! ### Written lines (R97) -/

theorem assembleLine_tick (d : BitVec 32) : assembleLine (lineOf (.tick d)) = some [.tick d] := by
  have hoperand := isBare_operandText d
  refine assembleLine_mnemonic_operands (isBare_mnemonic _) (isTrimmed_of_isBare hoperand) ?_
  rw [splitOperands_one hoperand]
  exact commandOfText_tick (wordOfText_operandText d)

theorem assembleLine_rd (r : Reg) : assembleLine (lineOf (.rd r)) = some [.rd r] := by
  have hoperand := isBare_registerName r
  refine assembleLine_mnemonic_operands (isBare_mnemonic _) (isTrimmed_of_isBare hoperand) ?_
  rw [splitOperands_one hoperand]
  exact commandOfText_rd (registerOfText_registerName r)

theorem assembleLine_freq {n : Exponent} (hn : n.toNat ≤ nmax) (ticks : BitVec 32) :
    assembleLine (lineOf (.freq n ticks)) = some [.freq n ticks] := by
  have hexponent : isBare (decimalText 2 n.toNat) = true :=
    isBare_decimalText (by decide) (n.isLt.trans (by decide))
  have hticks := isBare_operandText ticks
  have hoperands := (isTrimmed_of_isBare hexponent).append (isTrimmed_of_isBare hticks) [',', ' ']
    (by simp)
  refine assembleLine_mnemonic_operands (isBare_mnemonic _) hoperands ?_
  rw [splitOperands_two hexponent hticks]
  exact commandOfText_freq (exponentOfText_decimalText hn) (wordOfText_operandText ticks)

theorem lineOf_eq_mnemonic {i : Instr} (hi : i ∈ commandsWithoutOperands) :
    lineOf i = mnemonic i := by
  cases i with
  | tick _ | freq _ _ | rd _ => simp [commandsWithoutOperands] at hi
  | nop | edge | irq | cli | sei | nowa | nowb | nowc | now | snap | wdpoll | force | freqs
  | reset => rfl

theorem commandOfText_mnemonic :
    ∀ i ∈ commandsWithoutOperands, commandOfText (mnemonic i) [] = some i := by decide

theorem assembleLine_withoutOperands {i : Instr} (hi : i ∈ commandsWithoutOperands) :
    assembleLine (lineOf i) = some [i] := by
  rw [lineOf_eq_mnemonic hi]
  exact assembleLine_mnemonic (isBare_mnemonic i) (commandOfText_mnemonic i hi)

/-- Settles O6, by the operands of the command. -/
theorem writtenLineAssemblesToItsCommand : Obligations.WrittenLineAssemblesToItsCommand := by
  unfold Obligations.WrittenLineAssemblesToItsCommand
  intro i hi
  cases i with
  | tick d => exact assembleLine_tick d
  | rd r => exact assembleLine_rd r
  | freq n ticks => exact assembleLine_freq (by simpa [Instr.wellFormed] using hi) ticks
  | nop | edge | irq | cli | sei | nowa | nowb | nowc | now | snap | wdpoll | force | freqs
  | reset => exact assembleLine_withoutOperands (by simp [commandsWithoutOperands])

end Sys2Proof.Machine
end

section
/-!
PROOFS. The statements about the tick clock (spec/40_tick_clock.md): the hardware counter and its
lost wraps (R111, R112), the overflow handler (R113), the reads (R114 to R118), and what a read
guarantees (R119 to R121).
-/
namespace Sys2Proof.Machine

/-! ### Commands under suppression -/

theorem exec_of_suppressed {s : State} (h : s.gie = false) (i : Instr) :
    exec i s = .next (commandEffect i s) :=
  exec_next_iff.2 ⟨fun _ => h, rfl⟩

theorem exec_of_enabled {i : Instr} {s : State} (hi : needsSuppression i = true)
    (h : s.gie = true) : exec i s = .fault .flt2UnprotectedAccess := by
  rw [exec_eq, if_pos hi, whenSuppressed_of_enabled h]

/-- In a critical section every command completes, and only `SEI` ends the section. -/
theorem runCommands_of_suppressed {is : List Instr} (his : ∀ i ∈ is, i ≠ .sei) {s : State}
    (h : s.gie = false) : runCommands is s = .next (is.foldl (fun u i => commandEffect i u) s) := by
  induction is generalizing s with
  | nil => rfl
  | cons i rest ih =>
    obtain ⟨hi, hrest⟩ := List.forall_mem_cons.1 his
    exact runCommands_cons_next_iff.2
      ⟨_, exec_of_suppressed h i, ih hrest (commandEffect_gie_of_suppressed hi h)⟩

/-! ### The hardware counter (R111) -/

/-- R111's closed form, for a number of ticks that need not fit a `TICK` operand. -/
def afterTicks (n : Nat) (s : State) : State :=
  { s with
    tcnt := BitVec.ofNat 16 ((s.tcnt.toNat + n) % 2 ^ 16)
    tov := if 1 ≤ (s.tcnt.toNat + n) / 2 ^ 16 then true else s.tov }

theorem tovAfterTicks_of_wrap {tov : Bool} {tcnt : Narrow} {d : BitVec 32}
    (h : 2 ^ 16 ≤ tcnt.toNat + d.toNat) : tovAfterTicks tov tcnt d = true :=
  (tovAfterTicks_eq tov tcnt d).2 (.inr h)

theorem tovAfterTicks_of_no_wrap {tov : Bool} {tcnt : Narrow} {d : BitVec 32}
    (h : ¬ 2 ^ 16 ≤ tcnt.toNat + d.toNat) : tovAfterTicks tov tcnt d = tov :=
  Bool.eq_iff_iff.2 ((tovAfterTicks_eq tov tcnt d).trans (or_iff_left h))

theorem advanceTicks_eq_afterTicks (d : BitVec 32) (s : State) :
    advanceTicks d s = afterTicks d.toNat s := by
  have htcnt : BitVec.ofNat 16 (s.tcnt.toNat + d.toNat) =
      BitVec.ofNat 16 ((s.tcnt.toNat + d.toNat) % 2 ^ 16) := by
    apply BitVec.eq_of_toNat_eq
    simp
  have htov : tovAfterTicks s.tov s.tcnt d =
      if 1 ≤ (s.tcnt.toNat + d.toNat) / 2 ^ 16 then true else s.tov := by
    split_ifs with h
    · exact tovAfterTicks_of_wrap (by omega)
    · exact tovAfterTicks_of_no_wrap (by omega)
  rw [advanceTicks, afterTicks, htcnt, htov]

theorem afterTicks_zero (s : State) : afterTicks 0 s = s := by
  have hlt := s.tcnt.isLt
  have hnowrap : ¬ 1 ≤ (s.tcnt.toNat + 0) / 2 ^ 16 := by omega
  rw [afterTicks, if_neg hnowrap, Nat.add_zero, Nat.mod_eq_of_lt hlt, BitVec.ofNat_toNat,
    BitVec.setWidth_eq]

/-- One more tick wraps exactly when it brings the count to 0. -/
theorem advanceOneTick_afterTicks (n : Nat) (s : State) :
    advanceOneTick (afterTicks n s) = afterTicks (n + 1) s := by
  have htcnt : BitVec.ofNat 16 ((s.tcnt.toNat + n) % 2 ^ 16) + 1 =
      BitVec.ofNat 16 ((s.tcnt.toNat + (n + 1)) % 2 ^ 16) := by
    apply BitVec.eq_of_toNat_eq
    simp [Nat.add_assoc]
  have hzero : BitVec.ofNat 16 ((s.tcnt.toNat + (n + 1)) % 2 ^ 16) = 0 ↔
      (s.tcnt.toNat + (n + 1)) % 2 ^ 16 = 0 := by
    rw [← BitVec.toNat_inj]
    simp
  have hwrap : 1 ≤ (s.tcnt.toNat + (n + 1)) / 2 ^ 16 ↔
      (s.tcnt.toNat + (n + 1)) % 2 ^ 16 = 0 ∨ 1 ≤ (s.tcnt.toNat + n) / 2 ^ 16 := by omega
  simp only [advanceOneTick, afterTicks, htcnt, hzero, hwrap, ite_or]

theorem advanceOneTick_iterate (n : Nat) (s : State) : advanceOneTick^[n] s = afterTicks n s := by
  induction n with
  | zero => exact (afterTicks_zero s).symm
  | succ n ih => rw [Function.iterate_succ_apply', ih, advanceOneTick_afterTicks]

/-- Settles O14: the rounds and the closed form meet in `afterTicks`. -/
theorem tickIsRepeatedSingleTicks : Obligations.TickIsRepeatedSingleTicks := by
  unfold Obligations.TickIsRepeatedSingleTicks
  intro d s
  have hexec : exec (.tick d) s = .next (afterTicks d.toNat s) :=
    congrArg Host.Outcome.next (advanceTicks_eq_afterTicks d s)
  refine ⟨?_, hexec⟩
  rw [hexec, ← advanceOneTick_iterate]
  rfl

/-! ### Lost wraps (R112) -/

/-- The wraps of a `TICK` beyond the one that the pending bit can hold. -/
def lostWraps (d : BitVec 32) (s : State) : Nat :=
  bit s.tov + (s.tcnt.toNat + d.toNat) / 2 ^ 16 - 1

theorem bit_tovAfterTicks (tov : Bool) (tcnt : Narrow) (d : BitVec 32) :
    bit (tovAfterTicks tov tcnt d) = min 1 (bit tov + (tcnt.toNat + d.toNat) / 2 ^ 16) := by
  by_cases hwrap : 2 ^ 16 ≤ tcnt.toNat + d.toNat
  · rw [tovAfterTicks_of_wrap hwrap, bit_true]
    omega
  · have hbit := bit_le_one tov
    rw [tovAfterTicks_of_no_wrap hwrap]
    omega

theorem composedTicks_advanceTicks (d : BitVec 32) (s : State) :
    composedTicks (advanceTicks d s) + 2 ^ 16 * lostWraps d s = composedTicks s + d.toNat := by
  simp only [composedTicks, lostWraps, nw, advanceTicks_sovf, advanceTicks_tov,
    advanceTicks_tcnt_toNat, bit_tovAfterTicks]
  omega

theorem losesNoWrap_tick_iff (d : BitVec 32) (s : State) :
    losesNoWrap (.tick d) s = true ↔ lostWraps d s = 0 := by
  rw [losesNoWrap, decide_eq_true_iff, lostWraps, nw]
  cases s.tov
  · simp only [bit_false, Bool.false_eq_true, if_false]
    omega
  · simp only [bit_true, if_true]
    omega

theorem advanceTicks_tov_of_lostWraps {d : BitVec 32} {s : State} (h : 0 < lostWraps d s) :
    (advanceTicks d s).tov = true := by
  rw [advanceTicks_tov, tovAfterTicks_eq]
  cases htov : s.tov
  · simp only [lostWraps, htov, bit_false] at h
    omega
  · exact .inl rfl

/-- Settles O15: the loss is `lostWraps`. -/
theorem uncountedWrapsAreLost : Obligations.UncountedWrapsAreLost := by
  unfold Obligations.UncountedWrapsAreLost
  intro d s
  exact ⟨advanceTicks d s, rfl, composedTicks_advanceTicks d s, losesNoWrap_tick_iff d s,
    advanceTicks_tov_of_lostWraps⟩

/-! ### The overflow handler (R113) -/

theorem add_one_eq_ofNat (x : Narrow) : x + 1 = BitVec.ofNat 16 ((x.toNat + 1) % 2 ^ 16) := by
  apply BitVec.eq_of_toNat_eq
  simp

/-- Settles O16: the premises are the condition under which the dispatch selects the clock
overflow. -/
theorem overflowHandlerCountsOneOverflow : Obligations.OverflowHandlerCountsOneOverflow := by
  unfold Obligations.OverflowHandlerCountsOneOverflow
  intro s hgie htov hcmf hedge
  have hselect : selectInterrupt s = some .clockOverflow :=
    selectInterrupt_clockOverflow_iff.2 ⟨hgie, hedge, hcmf, htov⟩
  rw [← add_one_eq_ofNat]
  exact (execIrq_eq s).trans (congrArg Host.Outcome.next (dispatch_of_select hselect))

/-! ### The reads (R114 to R118) -/

theorem tickValue_eq_ofNat (thr : Nat) (ovf lo : Narrow) (tov : Bool) :
    tickValue thr ovf lo tov =
      BitVec.ofNat 32
        ((ovf.toNat + if tov = true ∧ lo.toNat < thr then 1 else 0) % 2 ^ 16 * 2 ^ 16 +
          lo.toNat) := by
  rw [← tickValue_toNat, BitVec.ofNat_toNat, BitVec.setWidth_eq]

/-- Settles O17: the three steps are guarded by R211's check, and the value of `NOWC` is R116's. -/
theorem splitReadSteps : Obligations.SplitReadSteps := by
  unfold Obligations.SplitReadSteps
  intro s
  refine ⟨fun hgie => ⟨exec_of_suppressed hgie .nowa, exec_of_suppressed hgie .nowb, ?_⟩,
    fun hgie => ⟨exec_of_enabled rfl hgie, exec_of_enabled rfl hgie, exec_of_enabled rfl hgie⟩⟩
  rw [← tickValue_eq_ofNat]
  exact exec_of_suppressed hgie .nowc

/-- Settles O18: `now()` is the tick value of the present registers. -/
theorem nowIsTheCheckedTickValue : Obligations.NowIsTheCheckedTickValue := by
  unfold Obligations.NowIsTheCheckedTickValue
  exact fun s => tickValue_toNat s.cfg.ovfThreshold s.sovf s.tcnt s.tov

/-- Settles O19: `NOWC` finds in the latches what `NOWA` and `NOWB` have just copied. -/
theorem nowEqualsTheThreeReads : Obligations.NowEqualsTheThreeReads := by
  unfold Obligations.NowEqualsTheThreeReads
  intro s
  refine ⟨fun hgie => ⟨exec_of_suppressed hgie .now, ?_⟩, exec_of_enabled rfl⟩
  rw [runCommands_of_suppressed (by simp) hgie, exec_of_suppressed hgie .now]
  rfl

/-! ### Who moves the clock -/

/-- The registers that the composed tick count is made of. -/
def clockRegisters (s : State) : Narrow × Bool × Narrow := (s.tcnt, s.tov, s.sovf)

theorem composedTicks_congr {s t : State} (h : clockRegisters t = clockRegisters s) :
    composedTicks t = composedTicks s := by
  simp only [clockRegisters, Prod.mk.injEq] at h
  obtain ⟨htcnt, htov, hsovf⟩ := h
  rw [composedTicks, composedTicks, htcnt, htov, hsovf]

theorem adaptStep_clockRegisters (e p : Nat) (s : State) :
    clockRegisters (adaptStep e p s) = clockRegisters s := by
  unfold adaptStep
  dsimp only
  split <;> rfl

theorem modeCheck_clockRegisters (t : Tick) (e p : Nat) (s : State) :
    clockRegisters (modeCheck t e p s) = clockRegisters s := by
  unfold modeCheck
  split_ifs <;> rfl

theorem fireWithPeriod_clockRegisters (t : Tick) (s : State) :
    clockRegisters (fireWithPeriod t s) = clockRegisters s :=
  (modeCheck_clockRegisters ..).trans (adaptStep_clockRegisters ..)

theorem isrEdge_clockRegisters (s : State) : clockRegisters (isrEdge s) = clockRegisters s := by
  obtain ⟨-, h⟩ | ⟨-, -, h⟩ | ⟨-, -, h⟩ := isrEdge_cases s <;> rw [h] <;> rfl

theorem isrCmp_clockRegisters (s : State) : clockRegisters (isrCmp s) = clockRegisters s := by
  obtain ⟨-, h⟩ | ⟨-, -, h⟩ | ⟨-, -, h⟩ := isrCmp_cases s <;> rw [h]
  · rfl
  · rfl
  · exact fireWithPeriod_clockRegisters ..

theorem edgeEffect_clockRegisters (s : State) :
    clockRegisters (edgeEffect s) = clockRegisters s := by
  unfold edgeEffect countEvent
  split <;> rfl

theorem snapshot_clockRegisters (s : State) : clockRegisters (snapshot s) = clockRegisters s := by
  unfold snapshot
  split <;> rfl

theorem watchdogStep_clockRegisters (s : State) :
    clockRegisters (watchdogStep s) = clockRegisters s := by
  unfold watchdogStep
  dsimp only
  split <;> rfl

/-- Serving the overflow moves its unit from the pending bit to the software counter (R113). -/
theorem composedTicks_isrOvf {s : State} (h : s.tov = true) :
    composedTicks (isrOvf { s with tov := false }) % 2 ^ 32 = composedTicks s % 2 ^ 32 := by
  simp only [composedTicks, isrOvf, h, nw, bit_true, bit_false, add_one_eq_ofNat,
    BitVec.toNat_ofNat]
  omega

/-- A dispatch point keeps the composed count: of the three handlers only `ISR_OVF` touches the
clock. -/
theorem composedTicks_dispatch (s : State) :
    composedTicks (dispatch s) % 2 ^ 32 = composedTicks s % 2 ^ 32 := by
  obtain ⟨-, h⟩ | ⟨-, h⟩ | ⟨hselect, h⟩ | ⟨-, h⟩ := dispatch_cases s <;> rw [h]
  · rw [composedTicks_congr (isrEdge_clockRegisters _)]
    rfl
  · rw [composedTicks_congr (isrCmp_clockRegisters _)]
    rfl
  · obtain ⟨-, -, -, htov⟩ := selectInterrupt_clockOverflow_iff.1 hselect
    exact composedTicks_isrOvf htov

/-! ### The registers hold the true time (R119) -/

theorem timeAfter_of_ne_reset {i : Instr} (hi : i ≠ .reset) (time : Nat) :
    timeAfter i time = time + ticksOf i := if_neg hi

theorem timeAfterAll_of_no_reset {is : List Instr} (his : ∀ i ∈ is, i ≠ .reset) (time : Nat) :
    timeAfterAll is time = time + (is.map ticksOf).sum := by
  induction is generalizing time with
  | nil => rfl
  | cons i rest ih =>
    obtain ⟨hi, hrest⟩ := List.forall_mem_cons.1 his
    rw [List.map_cons, List.sum_cons, ← Nat.add_assoc, ← timeAfter_of_ne_reset hi]
    exact ih hrest _

namespace TracksTime

theorem congr {time : Nat} {s t : State} (hs : TracksTime time s)
    (h : clockRegisters t = clockRegisters s) : TracksTime time t := by
  rw [TracksTime, composedTicks_congr h]
  exact hs

theorem resetWith (cfg : Config) (stream : List CommandWord) (pos : Nat) :
    TracksTime 0 (State.resetWith cfg stream pos) := by
  simp [TracksTime, composedTicks, State.resetWith, bit_false]

theorem advanceTicks {time : Nat} {s : State} (hs : TracksTime time s) {d : BitVec 32}
    (hsafe : losesNoWrap (.tick d) s = true) :
    TracksTime (time + d.toNat) (advanceTicks d s) := by
  have hlost := (losesNoWrap_tick_iff d s).1 hsafe
  have hcount := composedTicks_advanceTicks d s
  rw [hlost, Nat.mul_zero, Nat.add_zero] at hcount
  rw [TracksTime, hcount]
  exact Nat.ModEq.add_right d.toNat hs

/-- The step of R119's induction: a command that loses no wrap moves the composed count by the
ticks it lets pass. -/
theorem commandEffect {time : Nat} {s : State} (hs : TracksTime time s) {i : Instr}
    (hsafe : losesNoWrap i s = true) :
    TracksTime (timeAfter i time) (commandEffect i s) := by
  cases i with
  | tick d => exact hs.advanceTicks hsafe
  | irq => exact (composedTicks_dispatch s).trans hs
  | reset => exact resetWith s.cfg s.stream s.pos
  | edge => exact hs.congr (edgeEffect_clockRegisters s)
  | snap => exact hs.congr (snapshot_clockRegisters s)
  | wdpoll => exact hs.congr (watchdogStep_clockRegisters s)
  | nop | cli | sei | nowa | nowb | nowc | now | force | freq _ _ | freqs | rd _ =>
    exact hs.congr rfl

end TracksTime

theorem overflowSafe_cons_iff {i : Instr} {is : List Instr} {s t : State}
    (hexec : exec i s = .next t) :
    overflowSafe (i :: is) s = true ↔ losesNoWrap i s = true ∧ overflowSafe is t = true := by
  rw [overflowSafe, hexec, Bool.and_eq_true]

theorem TracksTime.runCommands {is : List Instr} {time : Nat} {s t : State}
    (hs : TracksTime time s) (hsafe : overflowSafe is s = true)
    (hrun : runCommands is s = .next t) : TracksTime (timeAfterAll is time) t := by
  induction is generalizing s time with
  | nil =>
    cases hrun
    exact hs
  | cons i rest ih =>
    obtain ⟨u, hexec, hrest⟩ := runCommands_cons_next_iff.1 hrun
    obtain ⟨hfirst, hsafeRest⟩ := (overflowSafe_cons_iff hexec).1 hsafe
    obtain ⟨-, rfl⟩ := exec_next_iff.1 hexec
    exact ih (hs.commandEffect hfirst) hsafeRest hrest

/-! ### When a read is exact (R119, R120) -/

/-- The tick value is the composed count with pending bit `tovB` exactly when the correction that
the check makes is that bit. For `now()` the bit checked is the same one; in a split read the check
comes after it. -/
theorem tickValue_exact_iff (thr : Nat) (ovf lo : Narrow) (tovB tovC : Bool) :
    (tickValue thr ovf lo tovC).toNat = ((ovf.toNat + bit tovB) * 2 ^ 16 + lo.toNat) % 2 ^ 32 ↔
      ((tovC = true ∧ lo.toNat < thr) ↔ tovB = true) := by
  have hovf := ovf.isLt
  have hlo := lo.isLt
  rw [tickValue_toNat]
  have hsame : (if tovC = true ∧ lo.toNat < thr then 1 else 0) = bit tovB ↔
      ((tovC = true ∧ lo.toNat < thr) ↔ tovB = true) := by
    by_cases hcheck : tovC = true ∧ lo.toNat < thr
    · simp [if_pos hcheck, iff_true_left hcheck, bit]
    · simp [if_neg hcheck, iff_false_left hcheck, eq_comm (a := 0), bit_eq_zero_iff]
  have hbit := bit_le_one tovB
  rw [← hsame]
  split_ifs
  · omega
  · omega

theorem nowTick_exact {time : Nat} {s : State} (hs : TracksTime time s)
    (h : overflowPendingTooLong s = false) : (nowTick s).toNat = time % 2 ^ 32 := by
  have hcheck : (s.tov = true ∧ s.tcnt.toNat < s.cfg.ovfThreshold) ↔ s.tov = true := by
    refine and_iff_left_of_imp fun htov => ?_
    simpa [overflowPendingTooLong, htov] using h
  exact ((tickValue_exact_iff _ _ _ _ _).2 hcheck).trans hs

theorem nowTick_short {time : Nat} {s : State} (hs : TracksTime time s)
    (h : overflowPendingTooLong s = true) :
    ((nowTick s).toNat + 2 ^ 16) % 2 ^ 32 = time % 2 ^ 32 := by
  have hlate : s.tov = true ∧ s.cfg.ovfThreshold ≤ s.tcnt.toNat := by
    simpa [overflowPendingTooLong] using h
  obtain ⟨htov, hthr⟩ := hlate
  have hvalue := tickValue_toNat s.cfg.ovfThreshold s.sovf s.tcnt s.tov
  rw [if_neg fun hc => Nat.not_lt.2 hthr hc.2] at hvalue
  refine Eq.trans ?_ hs
  rw [nowTick, hvalue, composedTicks, htov, bit_true, nw, tw]
  omega

/-- Settles O20: the invariant of the run, and the value of `now()` in its end state. -/
theorem readHoldsTrueTime : Obligations.ReadHoldsTrueTime := by
  unfold Obligations.ReadHoldsTrueTime
  intro is s t time hs hsafe hrun
  have ht := hs.runCommands hsafe hrun
  exact ⟨ht, nowTick_exact ht, nowTick_short ht⟩

/-- Settles O22: the count of the first state serves as the ghost count, so the second read is that
count and the ticks of the run. -/
theorem exactReadsDifferByElapsedTicks : Obligations.ExactReadsDifferByElapsedTicks := by
  unfold Obligations.ExactReadsDifferByElapsedTicks
  intro is s t his hsafe hexactS hrun hexactT
  have hs : TracksTime (composedTicks s) s := rfl
  have hfirst := nowTick_exact hs hexactS
  have hsecond := nowTick_exact (hs.runCommands hsafe hrun) hexactT
  rw [timeAfterAll_of_no_reset his] at hsecond
  rw [BitVec.toNat_sub, hfirst, hsecond]
  omega

/-! ### The split read (R120) -/

theorem overflowSafe_of_append {is js : List Instr} {s : State}
    (h : overflowSafe (is ++ js) s = true) : overflowSafe is s = true := by
  induction is generalizing s with
  | nil => rfl
  | cons i rest ih =>
    rw [List.cons_append, overflowSafe, Bool.and_eq_true] at h
    rw [overflowSafe, Bool.and_eq_true]
    obtain ⟨hfirst, hrest⟩ := h
    refine ⟨hfirst, ?_⟩
    cases hexec : exec i s with
    | next t =>
      rw [hexec] at hrest
      exact ih hrest
    | fault r => rfl
    | refused r => rfl

/-- R120's bounds: an overflow pending at the read of the hardware count is still pending at the
check and the count is below the threshold, and one that comes in between follows a count at or
above it. -/
theorem check_eq_pending_of_bounds {thr : Nat} {tov : Bool} {lo : Narrow} {b : BitVec 32}
    (hpending : tov = true → lo.toNat < thr) (hb : b.toNat ≤ 2 ^ 16 - thr) :
    (tovAfterTicks tov lo b = true ∧ lo.toNat < thr) ↔ tov = true := by
  have hlo := lo.isLt
  rw [tovAfterTicks_eq]
  constructor
  · rintro ⟨htov | hwrap, hlt⟩
    · exact htov
    · omega
  · exact fun htov => ⟨.inl htov, hpending htov⟩

/-- Settles O21: the latches at the check are the overflow count and the hardware count at the
`NOWB`, since no handler runs in between. -/
theorem splitReadReturnsTheReadInstant : Obligations.SplitReadReturnsTheReadInstant := by
  unfold Obligations.SplitReadReturnsTheReadInstant
  intro s time a b hgie hs hsafe
  obtain ⟨u, hu, huGie, hcfg, hlOvf, hlLo⟩ : ∃ u,
      runCommands [.nowa, .tick a, .nowb] s = .next u ∧ u.gie = false ∧
        u.cfg = s.cfg ∧ u.lOvf = u.sovf ∧ u.lLo = u.tcnt :=
    ⟨_, runCommands_of_suppressed (by simp) hgie, hgie, rfl, rfl, rfl⟩
  obtain ⟨v, hv, hvTov, hvRead⟩ : ∃ v, runCommands [.tick b, .nowc] u = .next v ∧
      v.tov = tovAfterTicks u.tov u.tcnt b ∧
      v.nowv = tickValue u.cfg.ovfThreshold u.lOvf u.lLo v.tov :=
    ⟨_, runCommands_of_suppressed (by simp) huGie, rfl, rfl⟩
  have htrack : composedTicks u % 2 ^ 32 = (time + a.toNat) % 2 ^ 32 :=
    hs.runCommands (overflowSafe_of_append (js := [.tick b, .nowc]) hsafe) hu
  have hexact : v.nowv.toNat = (time + a.toNat) % 2 ^ 32 ↔
      ((v.tov = true ∧ u.tcnt.toNat < u.cfg.ovfThreshold) ↔ u.tov = true) := by
    rw [← htrack, hvRead, hlOvf, hlLo]
    exact tickValue_exact_iff ..
  rw [hcfg] at hexact
  refine ⟨u, v, hu, hv, hexact, fun hpending hb => hexact.2 ?_⟩
  rw [hvTov]
  exact check_eq_pending_of_bounds hpending hb

end Sys2Proof.Machine
end

section
/-!
PROOFS. The statements about events and the Slow-Mode Counter (spec/41_slow_counter.md): one `EDGE`
(R131), the outcomes of `ISR_EDGE` (R133), the spacing of two edges (R135), and what a snapshot and
the calculator show before the first measurement (R135, R197, R269).
-/
namespace Sys2Proof.Machine

/-! ### One event (R131) -/

theorem ofNat_toNat_add_one (x : Narrow) : BitVec.ofNat 16 (x.toNat + 1) = x + 1 := by
  simp [BitVec.ofNat_add]

theorem edgfAfterEdge_eq_ite (edgf edgeIe : Bool) :
    edgfAfterEdge edgf edgeIe = if edgeIe = true then true else edgf := by
  cases edgeIe
  · exact Bool.or_false edgf
  · exact Bool.or_true edgf

/-- Settles O23, by whether the event is a compare-match. -/
theorem edgeIsOneEventForBothCounters : Obligations.EdgeIsOneEventForBothCounters := by
  unfold Obligations.EdgeIsOneEventForBothCounters
  intro s
  have hedge : exec .edge s = .next (edgeEffect s) := rfl
  rw [hedge, edgeEffect, edgfAfterEdge_eq_ite, ofNat_toNat_add_one]
  by_cases hmatch : 2 ^ s.ek.toNat ≤ s.ecnt.toNat + 1
  · rw [countEvent_of_match hmatch, if_pos hmatch]
  · rw [countEvent_of_no_match hmatch, if_neg hmatch]

/-! ### The outcomes of `ISR_EDGE` (R133) -/

theorem isrEdge_of_await {s : State} (hawait : s.sAwait = true) :
    isrEdge s = { s with sStart := nowTick s, sAwait := false } := if_pos hawait

theorem isrEdge_of_window {s : State} (hawait : s.sAwait = false) :
    isrEdge s = closeSlowWindow (nowTick s) s := by rw [isrEdge, hawait, if_neg Bool.false_ne_true]

theorem closeSlowWindow_of_ge {t : Tick} {s : State}
    (hperiod : s.cfg.esc ≤ (elapsedTicks t s.sStart).toNat) :
    closeSlowWindow t s =
      { s with sPeriod := elapsedTicks t s.sStart, sStart := t, sRlog := .zero } :=
  if_neg (Nat.not_lt.2 hperiod)

theorem closeSlowWindow_of_lt {t : Tick} {s : State}
    (hperiod : (elapsedTicks t s.sStart).toNat < s.cfg.esc) :
    closeSlowWindow t s =
      escalate t { s with sPeriod := elapsedTicks t s.sStart, sStart := t, sRlog := .zero } :=
  if_pos hperiod

theorem exec_irq_of_edge_pending {s : State} (hgie : s.gie = true) (hedgf : s.edgf = true)
    (hie : s.edgeIe = true) : exec .irq s = .next (isrEdge { s with edgf := false }) := by
  have hselect : selectInterrupt s = some .edgeDetect :=
    selectInterrupt_edgeDetect_iff.2 ⟨hgie, hedgf, hie⟩
  exact (execIrq_eq s).trans (congrArg Host.Outcome.next (dispatch_of_select hselect))

/-- Settles O26: the entry clears `EDGF`, which the handler's reads do not see. -/
theorem edgeHandlerOutcomes : Obligations.EdgeHandlerOutcomes := by
  unfold Obligations.EdgeHandlerOutcomes
  intro s hgie hedgf hie
  simp only [exec_irq_of_edge_pending hgie hedgf hie, Host.Outcome.next.injEq]
  refine ⟨fun hawait => ?_, fun hawait hperiod => ?_, fun hawait hperiod => ?_⟩
  · exact isrEdge_of_await hawait
  · exact Eq.trans (isrEdge_of_window hawait) (closeSlowWindow_of_ge hperiod)
  · exact Eq.trans (isrEdge_of_window hawait) (closeSlowWindow_of_lt hperiod)

/-! ### An edge that is served at once -/

/-- An event reaches only the hardware event counter and its flag. -/
theorem exists_countEvent_eq (s : State) :
    ∃ n c, countEvent s = { s with ecnt := n, cmf := c } := by
  by_cases hmatch : 2 ^ s.ek.toNat ≤ s.ecnt.toNat + 1
  · exact ⟨_, _, countEvent_of_match hmatch⟩
  · exact ⟨_, _, countEvent_of_no_match hmatch⟩

/-- While the edge interrupt is enabled, an edge served at once runs `ISR_EDGE`, whatever the edge
interrupt was before and whatever else is pending. -/
theorem runCommands_edge_irq {s : State} (hgie : s.gie = true) (hie : s.edgeIe = true) :
    ∃ n c, runCommands [.edge, .irq] s =
      .next (isrEdge { s with ecnt := n, cmf := c, edgf := false }) := by
  obtain ⟨n, c, hcount⟩ := exists_countEvent_eq s
  have hedge : exec .edge s = .next { s with ecnt := n, cmf := c, edgf := true } := by
    have heffect : exec .edge s = .next (edgeEffect s) := rfl
    rw [heffect, edgeEffect, hcount, edgfAfterEdge_eq_ite, if_pos hie]
  exact ⟨n, c, runCommands_cons_next_iff.2
    ⟨_, hedge, runCommands_cons_next_iff.2 ⟨_, exec_irq_of_edge_pending hgie rfl hie, rfl⟩⟩⟩

/-- The first edge of an epoch only starts a window. -/
theorem runCommands_edge_irq_of_await {s : State} (hgie : s.gie = true) (hie : s.edgeIe = true)
    (hawait : s.sAwait = true) :
    ∃ n c, runCommands [.edge, .irq] s = .next { s with
      ecnt := n, cmf := c, edgf := false, sStart := nowTick s, sAwait := false } := by
  obtain ⟨n, c, hrun⟩ := runCommands_edge_irq hgie hie
  exact ⟨n, c, hrun.trans (congrArg Host.Outcome.next (isrEdge_of_await hawait))⟩

/-- `v` holds what the end of a window of `P` ticks leaves of `s`: the period, and Fast freshly
started when the period is below `ESC` (R133 steps 3 to 5). -/
structure ClosesSlowWindow (P : Tick) (s v : State) : Prop where
  period : v.sPeriod = P
  escalates : P.toNat < s.cfg.esc → v.active = .fast ∧ v.edgeIe = false ∧ v.fPlog = 1 ∧
    v.fAwait = true ∧ v.ek = 1 ∧ v.ecnt = 0
  stays : s.cfg.esc ≤ P.toNat → v.active = s.active ∧ v.edgeIe = s.edgeIe ∧ v.fPlog = s.fPlog

theorem closesSlowWindow_closeSlowWindow (t : Tick) (s : State) :
    ClosesSlowWindow (elapsedTicks t s.sStart) s (closeSlowWindow t s) := by
  by_cases hshort : (elapsedTicks t s.sStart).toNat < s.cfg.esc
  · rw [closeSlowWindow_of_lt hshort]
    exact ⟨rfl, fun _ => ⟨rfl, rfl, rfl, rfl, rfl, rfl⟩, fun hlong => absurd hshort hlong.not_gt⟩
  · rw [closeSlowWindow_of_ge (Nat.not_lt.1 hshort)]
    exact ⟨rfl, fun h => absurd h hshort, fun _ => ⟨rfl, rfl, rfl⟩⟩

theorem runCommands_edge_irq_of_window {s : State} (hgie : s.gie = true) (hie : s.edgeIe = true)
    (hawait : s.sAwait = false) :
    ∃ v, runCommands [.edge, .irq] s = .next v ∧
      ClosesSlowWindow (elapsedTicks (nowTick s) s.sStart) s v := by
  obtain ⟨n, c, hrun⟩ := runCommands_edge_irq hgie hie
  have hcloses := hrun.trans (congrArg Host.Outcome.next (isrEdge_of_window hawait))
  obtain ⟨hperiod, hescalates, hstays⟩ := closesSlowWindow_closeSlowWindow (nowTick s)
    { s with ecnt := n, cmf := c, edgf := false }
  exact ⟨_, hcloses, hperiod, hescalates, hstays⟩

/-! ### Two edges measure their spacing (R135) -/

/-- O22 for a single `TICK`, on the tick values themselves. -/
theorem elapsedTicks_nowTick_advanceTicks {s : State} {P : BitVec 32}
    (hexact : overflowPendingTooLong s = false) (hsafe : losesNoWrap (.tick P) s = true)
    (hexactAfter : overflowPendingTooLong (advanceTicks P s) = false) :
    elapsedTicks (nowTick (advanceTicks P s)) (nowTick s) = P := by
  have htick : exec (.tick P) s = .next (advanceTicks P s) := rfl
  have hsafeRun : overflowSafe [.tick P] s = true :=
    (overflowSafe_cons_iff htick).2 ⟨hsafe, rfl⟩
  have hticks := exactReadsDifferByElapsedTicks [.tick P] s _ (by simp) hsafeRun hexact
    (runCommands_cons_next_iff.2 ⟨_, htick, rfl⟩) hexactAfter
  apply BitVec.eq_of_toNat_eq
  rw [elapsedTicks, hticks, List.map_singleton, List.sum_singleton, ticksOf]
  exact Nat.mod_eq_of_lt P.isLt

/-- Settles O27: the first edge latches the time of `s`, the second is served `P` ticks later, and
neither the handler nor the event moves the clock in between. -/
theorem twoEdgesMeasureTheirSpacing : Obligations.TwoEdgesMeasureTheirSpacing := by
  unfold Obligations.TwoEdgesMeasureTheirSpacing
  intro s P hgie hie hawait hexact hsafe hexactAfter
  obtain ⟨n, c, hfirst⟩ := runCommands_edge_irq_of_await hgie hie hawait
  obtain ⟨v, hsecond, hcloses⟩ := runCommands_edge_irq_of_window
    (s := advanceTicks P { s with
      ecnt := n, cmf := c, edgf := false, sStart := nowTick s, sAwait := false }) hgie hie rfl
  have hspacing := elapsedTicks_nowTick_advanceTicks hexact hsafe hexactAfter
  obtain ⟨hperiod, hescalates, hstays⟩ : ClosesSlowWindow P s v := by
    rw [← hspacing]
    exact ⟨hcloses.period, hcloses.escalates, hcloses.stays⟩
  rw [hie] at hstays
  exact ⟨_, v, hfirst, rfl, runCommands_cons_next_iff.2 ⟨_, rfl, hsecond⟩, hperiod, hescalates,
    hstays⟩

/-! ### No measurement yet (R135, R197, R269) -/

theorem snapshot_of_slow {s : State} (hslow : s.active = .slow) :
    snapshot s = { s with snapN := 0, snapP := s.sPeriod } := by
  rw [snapshot, hslow, hardwiredValue_eq]

/-- The rounded quotient is 0 exactly when the dividend, with half the divisor added, stays below
the divisor (R191). -/
theorem freqDHz_eq_zero_iff {k n ticks : Nat} (hticks : ticks ≠ 0) :
    freqDHz k n ticks = 0 ↔ k * 2 ^ n + ticks / 2 < ticks := by
  rw [freqDHz, if_neg hticks, Nat.div_eq_zero_iff, or_iff_right hticks]

/-- Over the largest divisor the product is rounded to 0 up to the parameter's bound. -/
theorem freqDHz_periodMax {k : Nat} (hk : k < 2 ^ 31) : freqDHz k 0 periodMax.toNat = 0 := by
  have hsentinel : periodMax.toNat = 2 ^ 32 - 1 := rfl
  rw [freqDHz_eq_zero_iff (by decide), hsentinel]
  omega

theorem calculate_periodMax {s : State} (hk : s.cfg.k < 2 ^ 31) :
    calculate 0 periodMax.toNat s = { s with fq := 0, fqu := false } := by
  rw [calculate, freqDHz_periodMax hk]
  rfl

/-- Settles O50: the snapshot is exponent 0 and the sentinel, which the calculator rounds to 0. -/
theorem noMeasurementReadsAsPlaceholder : Obligations.NoMeasurementReadsAsPlaceholder := by
  unfold Obligations.NoMeasurementReadsAsPlaceholder
  intro s hgie hslow hperiod hk
  have hsnap : exec .snap s = .next { s with snapN := 0, snapP := periodMax } := by
    rw [exec_of_suppressed hgie, commandEffect, snapshot_of_slow hslow, hperiod]
  have hfreqs : exec .freqs { s with snapN := 0, snapP := periodMax } =
      .next { s with snapN := 0, snapP := periodMax, fq := 0, fqu := false } :=
    congrArg Host.Outcome.next (calculate_periodMax hk)
  exact ⟨_, runCommands_cons_next_iff.2
    ⟨_, hsnap, runCommands_cons_next_iff.2 ⟨_, hfreqs, rfl⟩⟩, rfl, rfl, rfl, rfl⟩

end Sys2Proof.Machine
end

section
/-!
PROOFS. The statements about the Fast-Mode Counter (spec/42_fast_counter.md): the events of one
hardware window (R146), `PROGRAM` (R147), the adaptation of the exponent (R152, R155), and the runs
of `ISR_CMP` (R149 to R153).
-/
namespace Sys2Proof.Machine

/-! ### The events of one hardware window (R146) -/

theorem runCommands_concat {is : List Instr} {i : Instr} {s t u : State}
    (hrun : runCommands is s = .next t) (hexec : exec i t = .next u) :
    runCommands (is ++ [i]) s = .next u := by
  induction is generalizing s with
  | nil =>
    cases hrun
    exact runCommands_cons_next_iff.2 ⟨u, hexec, rfl⟩
  | cons j rest ih =>
    obtain ⟨v, hfirst, hrest⟩ := runCommands_cons_next_iff.1 hrun
    exact runCommands_cons_next_iff.2 ⟨v, hfirst, ih hrest⟩

/-- What the first `m` events of a hardware window leave. -/
def afterEvents (m : Nat) (s : State) : State :=
  { s with
    ecnt := BitVec.ofNat 16 (m % 2 ^ s.ek.toNat)
    cmf := decide (m = 2 ^ s.ek.toNat)
    edgf := s.edgf || (s.edgeIe && decide (0 < m)) }

theorem afterEvents_zero {s : State} (hecnt : s.ecnt = 0) (hcmf : s.cmf = false) :
    afterEvents 0 s = s := by
  have hfull : 0 ≠ 2 ^ s.ek.toNat := (Nat.two_pow_pos _).ne
  ext1 <;> simp [afterEvents, hecnt, hcmf, hfull]

theorem afterEvents_ecnt_toNat {m : Nat} {s : State} (hek : s.ek.toNat ≤ 16)
    (hm : m < 2 ^ s.ek.toNat) : (afterEvents m s).ecnt.toNat = m := by
  have hwidth : 2 ^ s.ek.toNat ≤ 2 ^ 16 := Nat.pow_le_pow_right (by decide) hek
  simp only [afterEvents, BitVec.toNat_ofNat, Nat.mod_eq_of_lt hm]
  exact Nat.mod_eq_of_lt (hm.trans_le hwidth)

theorem edgf_after_one_more_event (edgf edgeIe : Bool) (m : Nat) :
    (if edgeIe = true then true else edgf || (edgeIe && decide (0 < m))) =
      (edgf || (edgeIe && decide (0 < m + 1))) := by
  cases edgeIe <;> simp

/-- One more event: it completes the window exactly when it is event `2^EK`. -/
theorem exec_edge_afterEvents {m : Nat} {s : State} (hek : s.ek.toNat ≤ 16)
    (hm : m < 2 ^ s.ek.toNat) : exec .edge (afterEvents m s) = .next (afterEvents (m + 1) s) := by
  have hlimit : (afterEvents m s).ek = s.ek := rfl
  have hedgf : (if (afterEvents m s).edgeIe = true then true else (afterEvents m s).edgf) =
      (afterEvents (m + 1) s).edgf := edgf_after_one_more_event ..
  rw [edgeIsOneEventForBothCounters, afterEvents_ecnt_toNat hek hm, hlimit, hedgf]
  by_cases hfull : 2 ^ s.ek.toNat ≤ m + 1
  · have hlast : m + 1 = 2 ^ s.ek.toNat := Nat.le_antisymm hm hfull
    rw [if_pos hfull]
    simp [afterEvents, hlast]
  · have hnext : m + 1 < 2 ^ s.ek.toNat := Nat.lt_of_not_le hfull
    rw [if_neg hfull]
    simp [afterEvents, hnext.ne, hm.ne, Nat.mod_eq_of_lt hnext]

/-- Settles O24, by induction on the number of events. -/
theorem compareMatchOncePerWindow : Obligations.CompareMatchOncePerWindow := by
  unfold Obligations.CompareMatchOncePerWindow
  intro s m hek hecnt hcmf hm
  suffices hrun : runCommands (List.replicate m .edge) s = .next (afterEvents m s) from hrun
  induction m with
  | zero => exact congrArg Host.Outcome.next (afterEvents_zero hecnt hcmf).symm
  | succ m ih =>
    rw [List.replicate_succ']
    exact runCommands_concat (ih (Nat.le_of_succ_le hm)) (exec_edge_afterEvents hek hm)

/-! ### `PROGRAM` (R147) -/

/-- Settles O28: the two parts of the exponent add up to it. -/
theorem programSplitsTheExponent : Obligations.ProgramSplitsTheExponent := by
  unfold Obligations.ProgramSplitsTheExponent
  intro e s _ hhigh
  have hek : (program e s).ek.toNat = min e 16 := hardwareLimit_toNat e
  have hxlim : (program e s).xlim.toNat = 2 ^ (e - 16) := softwareLimit_toNat hhigh
  refine ⟨rfl, hek, ?_, ?_⟩
  · rw [hxlim, Nat.max_zero]
  · rw [hek, hxlim, ← Nat.pow_add, Nat.sub_add_min_cancel]

/-! ### The adaptation of the exponent (R149 step 5, R152) -/

/-- Settles O29, by induction on the room that is left: the doublings after the first one are those
of the loop entered one exponent higher. -/
theorem raiseLoopStopsAtTheTarget : Obligations.RaiseLoopStopsAtTheTarget := by
  unfold Obligations.RaiseLoopStopsAtTheTarget
  intro low room e p
  induction room generalizing e p with
  | zero => exact ⟨0, le_rfl, by simp [raiseExponent], .inr rfl, nofun⟩
  | succ room ih =>
    by_cases hshort : p < low
    · obtain ⟨j, hj, hresult, hstop, hbelow⟩ := ih (e + 1) (2 * p)
      have hdouble (i : Nat) : 2 ^ i * (2 * p) = 2 ^ (i + 1) * p := by ring
      rw [hdouble] at hresult hstop
      refine ⟨j + 1, Nat.succ_le_succ hj, ?_, hstop.imp_right (congrArg _), fun i hi => ?_⟩
      · rw [raiseExponent, if_pos hshort, hresult, Nat.add_right_comm, Nat.add_assoc]
      · cases i with
        | zero => simpa using hshort
        | succ i => exact hdouble i ▸ hbelow i (Nat.lt_of_succ_lt_succ hi)
    · exact ⟨0, Nat.zero_le _, by simp [raiseExponent, hshort], .inl (by omega), nofun⟩

/-- Settles O30, by the recursion of the loop: the halvings after the first one are those of the
loop entered one exponent lower. -/
theorem lowerLoopStopsAtTheTarget : Obligations.LowerLoopStopsAtTheTarget := by
  unfold Obligations.LowerLoopStopsAtTheTarget
  intro high e p he
  induction e, p using lowerExponent.induct high with
  | case1 => omega
  | case2 p => exact ⟨0, Nat.one_pos, by simp [lowerExponent], .inr rfl, nofun⟩
  | case3 e p hlong ih =>
    obtain ⟨j, hj, hresult, hstop, habove⟩ := ih (Nat.succ_pos e)
    have hhalve (i : Nat) : p / 2 / 2 ^ i = p / 2 ^ (i + 1) := by
      rw [Nat.div_div_eq_div_mul, ← Nat.pow_succ']
    have hexp : e + 2 - (j + 1) = e + 1 - j := Nat.add_sub_add_right (e + 1) 1 j
    rw [hhalve, ← hexp] at hresult hstop
    refine ⟨j + 1, Nat.succ_lt_succ hj, ?_, hstop, fun i hi => ?_⟩
    · rw [lowerExponent, if_pos hlong, hresult]
    · cases i with
      | zero => simpa using hlong
      | succ i => exact hhalve i ▸ habove i (Nat.lt_of_succ_lt_succ hi)
  | case4 e p hshort =>
    exact ⟨0, Nat.succ_pos _, by simp [lowerExponent, hshort], .inl (by simpa using hshort), nofun⟩

theorem takesBranchA_iff {c : Config} {e p : Nat} :
    takesBranchA c e p = true ↔ p < c.low ∧ e < 20 := by
  rw [takesBranchA, nmax, Bool.and_eq_true, decide_eq_true_iff, decide_eq_true_iff]

/-- Branch A: the exponent goes up, to at most 20, and the last doubling started below `LOW`. -/
theorem adaptExponent_of_branchA {c : Config} {e p : Nat} (h : takesBranchA c e p = true) :
    (e < (adaptExponent c e p).1 ∧ (adaptExponent c e p).1 ≤ 20) ∧
      (c.low ≤ (adaptExponent c e p).2 ∨ (adaptExponent c e p).1 = 20) ∧
      (adaptExponent c e p).2 < 2 * c.low := by
  obtain ⟨hshort, hroom⟩ := takesBranchA_iff.1 h
  obtain ⟨j, hj, hresult, hstop, hbelow⟩ := raiseLoopStopsAtTheTarget c.low (20 - e) e p
  have heq : adaptExponent c e p = (e + j, 2 ^ j * p) := (if_pos h).trans hresult
  rw [heq]
  cases j with
  | zero => omega
  | succ i =>
    have hlast := hbelow i (Nat.lt_succ_self i)
    rw [Nat.pow_succ', Nat.mul_assoc] at hstop ⊢
    exact ⟨by omega, hstop.imp_right fun htop => by omega, by omega⟩

/-- Branch B: nothing moves, or the exponent goes down and the last halving started above `HIGH`,
which is `3 * LOW`. -/
theorem adaptExponent_of_branchB {c : Config} {e p : Nat} (hlow : 0 < c.low) (he : 1 ≤ e)
    (h : takesBranchA c e p = false) :
    1 ≤ (adaptExponent c e p).1 ∧
      ((adaptExponent c e p).2 ≤ c.high ∨ (adaptExponent c e p).1 = 1) ∧
      (adaptExponent c e p = (e, p) ∨
        (adaptExponent c e p).1 < e ∧ c.low < (adaptExponent c e p).2) := by
  obtain ⟨j, hj, hresult, hstop, habove⟩ := lowerLoopStopsAtTheTarget c.high e p he
  have heq : adaptExponent c e p = (e - j, p / 2 ^ j) := (if_neg (by simp [h])).trans hresult
  rw [heq]
  refine ⟨by omega, hstop, ?_⟩
  cases j with
  | zero => simp
  | succ i =>
    have hlast := habove i (Nat.lt_succ_self i)
    have hhigh : c.high = 3 * c.low := rfl
    rw [Nat.pow_succ, ← Nat.div_div_eq_div_mul]
    exact .inr ⟨by omega, by omega⟩

/-- Settles O31, by the branch taken. -/
theorem adaptationKeepsTheWindowInBand : Obligations.AdaptationKeepsTheWindowInBand := by
  unfold Obligations.AdaptationKeepsTheWindowInBand
  intro c e p hlow he hhigh
  cases hbranch : takesBranchA c e p with
  | true =>
    obtain ⟨⟨hup, htop⟩, hreach, hbelow⟩ := adaptExponent_of_branchA hbranch
    exact ⟨⟨by omega, htop⟩, fun _ => ⟨hreach, hbelow⟩, fun hdown => by omega,
      fun hstay => by omega⟩
  | false =>
    obtain ⟨hpos, hstop, hstay | ⟨hdown, habove⟩⟩ := adaptExponent_of_branchB hlow he hbranch
    · have hlong : ¬ (p < c.low ∧ e < 20) := by simp [← takesBranchA_iff, hbranch]
      rw [hstay] at hstop ⊢
      exact ⟨⟨he, hhigh⟩, fun hup => by omega, fun hdown => by omega,
        fun _ => ⟨rfl, by omega, hstop⟩⟩
    · exact ⟨⟨hpos, by omega⟩, fun hup => by omega, fun _ => ⟨hstop, habove⟩,
        fun hstay => by omega⟩

/-! ### The runs of `ISR_CMP` (R149, R150) -/

theorem exec_irq_of_compareMatch {s : State} (hgie : s.gie = true) (hcmf : s.cmf = true)
    (hedge : (s.edgf && s.edgeIe) = false) :
    exec .irq s = .next (isrCmp { s with cmf := false }) := by
  have hselect : selectInterrupt s = some .compareMatch :=
    selectInterrupt_compareMatch_iff.2 ⟨hgie, hedge, hcmf⟩
  exact (execIrq_eq s).trans (congrArg Host.Outcome.next (dispatch_of_select hselect))

/-- Below the width of `XCNT`, the run fires when the count reaches the limit. -/
theorem fires_iff {s : State} (hwidth : s.xcnt.toNat + 1 < 32) :
    fires s = true ↔ s.xlim.toNat ≤ s.xcnt.toNat + 1 := by
  have hcount : (s.xcnt + 1).toNat = s.xcnt.toNat + 1 := BitVec.toNat_add_of_lt hwidth
  rw [← hcount, fires, Bool.not_eq_true', decide_eq_false_iff_not, BitVec.not_lt, BitVec.le_def]

theorem isrCmp_of_counting {s : State} (h : fires s = false) :
    isrCmp s = { s with wdog := s.cfg.ceiling, xcnt := s.xcnt + 1 } := by
  obtain ⟨-, heq⟩ | ⟨hfires, -⟩ | ⟨hfires, -⟩ := isrCmp_cases s
  · exact heq
  · exact absurd hfires (by simp [h])
  · exact absurd hfires (by simp [h])

theorem isrCmp_of_await {s : State} (h : fires s = true) (hawait : s.fAwait = true) :
    isrCmp s = { s with
      wdog := s.cfg.ceiling, xcnt := 0, fStart := nowTick s, fAwait := false } := by
  obtain ⟨hcounting, -⟩ | ⟨-, -, heq⟩ | ⟨-, hwindow, -⟩ := isrCmp_cases s
  · exact absurd h (by simp [hcounting])
  · exact heq
  · exact absurd hawait (by simp [hwindow])

theorem isrCmp_of_window {s : State} (h : fires s = true) (hawait : s.fAwait = false) :
    isrCmp s = fireWithPeriod (nowTick s) { s with wdog := s.cfg.ceiling, xcnt := 0 } := by
  obtain ⟨hcounting, -⟩ | ⟨-, hfirst, -⟩ | ⟨-, -, heq⟩ := isrCmp_cases s
  · exact absurd h (by simp [hcounting])
  · exact absurd hawait (by simp [hfirst])
  · exact heq

/-- Settles O33: the entry clears `CMF`, which the handler's reads do not see. -/
theorem firstFiringStartsTheWindow : Obligations.FirstFiringStartsTheWindow := by
  unfold Obligations.FirstFiringStartsTheWindow
  intro s hgie hcmf hedge hlimit hwidth hawait
  have hfires : fires s = true := (fires_iff hwidth).2 hlimit
  rw [exec_irq_of_compareMatch hgie hcmf hedge]
  exact congrArg Host.Outcome.next (isrCmp_of_await (s := { s with cmf := false }) hfires hawait)

/-! ### A firing run with a period (R149 steps 4 to 6, R152, R153) -/

/-- The period of the window that ends at `t`. -/
def windowPeriod (t : Tick) (s : State) : Nat := (elapsedTicks t s.fStart).toNat

/-- The exponent and the tracked period that step 5 leaves at the end of that window. -/
def adaptedAt (t : Tick) (s : State) : Nat × Nat :=
  adaptExponent s.cfg s.fPlog.toNat (windowPeriod t s)

/-- What every firing run with a period writes: the record of the window and the adapted exponent.
The rest is the choice of the mode. -/
def measuredAt (t : Tick) (s : State) : State :=
  setFastExponent (adaptedAt t s).1 (closeFastWindow t s)

theorem fireWithPeriod_eq (t : Tick) (s : State) :
    fireWithPeriod t s = modeCheck t (adaptedAt t s).1 (adaptedAt t s).2
      (adaptStep s.fPlog.toNat (windowPeriod t s) (closeFastWindow t s)) := rfl

theorem adaptStep_of_fast {e p : Nat} {s : State} (hfast : s.active = .fast) :
    adaptStep e p s = setFastExponent (adaptExponent s.cfg e p).1 s := by
  simp [adaptStep, hfast]

theorem adaptStep_of_slow {e p : Nat} {s : State} (hslow : s.active = .slow) :
    adaptStep e p s =
      if takesBranchA s.cfg e p = true then
        makeFastActive (setFastExponent (adaptExponent s.cfg e p).1 s)
      else setFastExponent (adaptExponent s.cfg e p).1 s := by
  simp [adaptStep, hslow]

theorem modeCheck_of_fast {t : Tick} {e p : Nat} {s : State} (hfast : s.active = .fast) :
    modeCheck t e p s = if s.cfg.high < p ∧ e = 1 then deescalate t p s else s := by
  simp [modeCheck, hfast]

theorem modeCheck_of_slow {t : Tick} {e p : Nat} {s : State} (hslow : s.active = .slow) :
    modeCheck t e p s = if s.sPeriod.toNat < s.cfg.low then makeFastActive s else s := by
  simp [modeCheck, hslow]

/-- After an increase the tracked period is below `2 * LOW`, so not above `HIGH`. -/
theorem adaptedAt_le_high {t : Tick} {s : State}
    (h : takesBranchA s.cfg s.fPlog.toNat (windowPeriod t s) = true) :
    (adaptedAt t s).2 ≤ s.cfg.high := by
  obtain ⟨-, -, hbelow⟩ := adaptExponent_of_branchA h
  have hband : (adaptedAt t s).2 < 2 * s.cfg.low := hbelow
  have hhigh : s.cfg.high = 3 * s.cfg.low := rfl
  omega

theorem fireWithPeriod_of_fast {s : State} (hfast : s.active = .fast) (t : Tick) :
    fireWithPeriod t s =
      if s.cfg.high < (adaptedAt t s).2 ∧ (adaptedAt t s).1 = 1 then
        deescalate t (adaptedAt t s).2 (measuredAt t s)
      else measuredAt t s := by
  have hstep : adaptStep s.fPlog.toNat (windowPeriod t s) (closeFastWindow t s) = measuredAt t s :=
    adaptStep_of_fast hfast
  have hmode : (measuredAt t s).active = .fast := hfast
  rw [fireWithPeriod_eq, hstep, modeCheck_of_fast hmode]
  rfl

/-- From Slow, a run that step 5 has promoted is not de-escalated by step 6. -/
theorem fireWithPeriod_of_slow {s : State} (hslow : s.active = .slow) (t : Tick) :
    fireWithPeriod t s =
      if (windowPeriod t s < s.cfg.low ∧ s.fPlog.toNat < 20) ∨ s.sPeriod.toNat < s.cfg.low then
        makeFastActive (measuredAt t s)
      else measuredAt t s := by
  have hstep : adaptStep s.fPlog.toNat (windowPeriod t s) (closeFastWindow t s) =
      if takesBranchA s.cfg s.fPlog.toNat (windowPeriod t s) = true then
        makeFastActive (measuredAt t s)
      else measuredAt t s := adaptStep_of_slow hslow
  rw [fireWithPeriod_eq, hstep]
  by_cases hbranch : takesBranchA s.cfg s.fPlog.toNat (windowPeriod t s) = true
  · have hband := adaptedAt_le_high hbranch
    rw [if_pos hbranch, if_pos (.inl (takesBranchA_iff.1 hbranch)), modeCheck_of_fast rfl]
    exact if_neg fun hlong => hband.not_gt hlong.1
  · have hmode : (measuredAt t s).active = .slow := hslow
    have hlong := mt takesBranchA_iff.2 hbranch
    rw [if_neg hbranch]
    simp only [hlong, false_or]
    exact modeCheck_of_slow hmode

/-- Whatever the mode becomes, the watchdog is left alone, the count of compare-matches starts over,
and the next window starts at the end of this one. -/
theorem fireWithPeriod_counters (t : Tick) (s : State) :
    (fireWithPeriod t s).wdog = s.wdog ∧ (fireWithPeriod t s).xcnt = 0 ∧
      (fireWithPeriod t s).fStart = t := by
  cases hactive : s.active with
  | fast =>
    rw [fireWithPeriod_of_fast hactive]
    split <;> exact ⟨rfl, rfl, rfl⟩
  | slow =>
    rw [fireWithPeriod_of_slow hactive]
    split <;> exact ⟨rfl, rfl, rfl⟩

theorem isrCmp_wdog (s : State) : (isrCmp s).wdog = s.cfg.ceiling := by
  obtain ⟨-, h⟩ | ⟨-, -, h⟩ | ⟨-, -, h⟩ := isrCmp_cases s <;> rw [h]
  obtain ⟨hwdog, -, -⟩ :=
    fireWithPeriod_counters (nowTick s) { s with wdog := s.cfg.ceiling, xcnt := 0 }
  exact hwdog

theorem isrCmp_cmf (s : State) : (isrCmp s).cmf = s.cmf := (RaisesNoFlag.isrCmp s).cmf

/-- Every firing run ends a window at the present tick. -/
theorem isrCmp_window_of_fires {s : State} (h : fires s = true) :
    (isrCmp s).xcnt = 0 ∧ (isrCmp s).fStart = nowTick s := by
  cases hawait : s.fAwait with
  | true =>
    rw [isrCmp_of_await h hawait]
    exact ⟨rfl, rfl⟩
  | false =>
    rw [isrCmp_of_window h hawait]
    obtain ⟨-, hcounters⟩ :=
      fireWithPeriod_counters (nowTick s) { s with wdog := s.cfg.ceiling, xcnt := 0 }
    exact hcounters

theorem fires_of_xlim_one {s : State} (hxlim : s.xlim = 1) (hxcnt : s.xcnt = 0) :
    fires s = true := by
  rw [fires, hxlim, hxcnt]
  rfl

/-- Settles O32: the limit fits its register, so a count below it does not wrap. -/
theorem compareMatchReloadsTheWatchdog : Obligations.CompareMatchReloadsTheWatchdog := by
  unfold Obligations.CompareMatchReloadsTheWatchdog
  intro s hgie hcmf hedge
  rw [exec_irq_of_compareMatch hgie hcmf hedge]
  refine ⟨fun hbelow => ?_, _, rfl, isrCmp_wdog _, isrCmp_cmf _, fun hxlim hxcnt => ?_⟩
  · have hwidth : s.xcnt.toNat + 1 < 32 := hbelow.trans s.xlim.isLt
    have hcounting : fires s = false := by
      rw [Bool.eq_false_iff, ne_eq, fires_iff hwidth]
      omega
    have hsum : BitVec.ofNat 5 (s.xcnt.toNat + 1) = s.xcnt + 1 := by simp [BitVec.ofNat_add]
    rw [hsum]
    exact congrArg Host.Outcome.next (isrCmp_of_counting (s := { s with cmf := false }) hcounting)
  · exact isrCmp_window_of_fires (s := { s with cmf := false }) (fires_of_xlim_one hxlim hxcnt)

/-- The state in which the handler closes the window: the entry and steps 1 and 2 are done. -/
def countedMatch (s : State) : State :=
  { s with cmf := false, wdog := s.cfg.ceiling, xcnt := 0 }

theorem exec_irq_of_window {s : State} (hgie : s.gie = true) (hcmf : s.cmf = true)
    (hedge : (s.edgf && s.edgeIe) = false) (hfires : fires s = true) (hawait : s.fAwait = false) :
    exec .irq s = .next (fireWithPeriod (nowTick s) (countedMatch s)) := by
  rw [exec_irq_of_compareMatch hgie hcmf hedge]
  exact congrArg Host.Outcome.next (isrCmp_of_window (s := { s with cmf := false }) hfires hawait)

/-- Settles O34, by the mode the run starts in. -/
theorem firingRunOutcomes : Obligations.FiringRunOutcomes := by
  unfold Obligations.FiringRunOutcomes
  intro s hgie hcmf hedge hlimit hwidth hawait now period e p measured
  have hfires : fires s = true := (fires_iff hwidth).2 hlimit
  rw [exec_irq_of_window hgie hcmf hedge hfires hawait]
  refine congrArg Host.Outcome.next ?_
  split
  case _ hfast => exact fireWithPeriod_of_fast (s := countedMatch s) hfast now
  case _ hslow => exact fireWithPeriod_of_slow (s := countedMatch s) hslow now

/-- A firing run whose period is too short stores the raised exponent and ends in Fast, from either
mode. -/
theorem fireWithPeriod_of_branchA {t : Tick} {s : State}
    (h : takesBranchA s.cfg s.fPlog.toNat (windowPeriod t s) = true) :
    (fireWithPeriod t s).fPlog = BitVec.ofNat 5 (adaptedAt t s).1 ∧
      (fireWithPeriod t s).ek = hardwareLimit (adaptedAt t s).1 ∧
      (fireWithPeriod t s).active = .fast := by
  cases hactive : s.active with
  | fast =>
    have hband := adaptedAt_le_high h
    rw [fireWithPeriod_of_fast hactive, if_neg fun hlong => hband.not_gt hlong.1]
    exact ⟨rfl, rfl, hactive⟩
  | slow =>
    rw [fireWithPeriod_of_slow hactive, if_pos (.inl (takesBranchA_iff.1 h))]
    exact ⟨rfl, rfl, rfl⟩

/-- Settles O35: the raised exponent is at most 20, so it fits its register. -/
theorem shortWindowRaisesTheExponent : Obligations.ShortWindowRaisesTheExponent := by
  unfold Obligations.ShortWindowRaisesTheExponent
  intro s _ hgie hcmf hedgf hfires hawait hshort hroom
  have hbranch : takesBranchA s.cfg s.fPlog.toNat (fastPeriod s) = true :=
    takesBranchA_iff.2 ⟨hshort, hroom⟩
  obtain ⟨⟨hup, htop⟩, -⟩ := adaptExponent_of_branchA hbranch
  obtain ⟨hplog, hek, hfast⟩ :=
    fireWithPeriod_of_branchA (t := nowTick s) (s := countedMatch s) hbranch
  have hplogNat : (fireWithPeriod (nowTick s) (countedMatch s)).fPlog.toNat =
      (adaptExponent s.cfg s.fPlog.toNat (fastPeriod s)).1 := by
    rw [hplog, BitVec.toNat_ofNat]
    exact Nat.mod_eq_of_lt (htop.trans_lt (by decide))
  refine ⟨_, exec_irq_of_window hgie hcmf (by simp [hedgf]) hfires hawait, ?_⟩
  rw [hplogNat, hek, hardwareLimit_toNat]
  exact ⟨hup, htop, rfl, hfast⟩

end Sys2Proof.Machine
end

section
/-!
PROOFS. The statements about the Mode Arbitrator and Watchdog (spec/43_mode_arbiter.md): `FORCE`
and `SNAP` (R172, R173, R176), the watchdog's poll and the one transition it forces (R174, R175),
who writes the watchdog (R175), and the ways the mode changes (R177).
-/
namespace Sys2Proof.Machine

/-! ### `FORCE` and `SNAP` (R173, R176) -/

/-- Settles O37: the effect of `FORCE` is `FORCE_SLOW()`. -/
theorem forceWritesFreshSlow : Obligations.ForceWritesFreshSlow := by
  unfold Obligations.ForceWritesFreshSlow
  refine fun s => ⟨fun hgie => ?_, exec_of_enabled rfl⟩
  exact (exec_of_suppressed hgie .force).trans (congrArg Host.Outcome.next (forceSlow_eq s))

theorem snapshot_of_fast {s : State} (hfast : s.active = .fast) :
    snapshot s = { s with snapN := s.fRlog, snapP := s.fPeriod } := by
  rw [snapshot, hfast]

/-- Settles O40, by the active mode. -/
theorem snapCopiesTheActiveRecord : Obligations.SnapCopiesTheActiveRecord := by
  unfold Obligations.SnapCopiesTheActiveRecord
  refine fun s => ⟨fun hgie => ?_, exec_of_enabled rfl⟩
  rw [exec_of_suppressed hgie .snap]
  exact ⟨fun hslow => congrArg Host.Outcome.next (snapshot_of_slow hslow),
    fun hfast => congrArg Host.Outcome.next (snapshot_of_fast hfast)⟩

/-! ### One poll of the watchdog (R174) -/

theorem watchdogStep_of_stays {s : State}
    (h : 0 ≤ (decrementCountdown s.wdog).toInt ∨ s.active = .slow) :
    watchdogStep s = { s with wdog := decrementCountdown s.wdog } := by
  refine if_neg fun hforces => ?_
  simp only [countdownNegative, Bool.and_eq_true, decide_eq_true_eq] at hforces
  obtain ⟨hneg, hfast⟩ := hforces
  obtain hnonneg | hslow := h
  · exact hneg.not_ge hnonneg
  · exact nomatch hslow.symm.trans hfast

theorem watchdogStep_of_forces {s : State} (hneg : (decrementCountdown s.wdog).toInt < 0)
    (hfast : s.active = .fast) :
    watchdogStep s = forceSlow { s with wdog := decrementCountdown s.wdog } :=
  if_pos (by simp [countdownNegative, hneg, hfast])

/-- The decrement is unconditional: the forced transition leaves the countdown alone. -/
theorem watchdogStep_wdog (s : State) : (watchdogStep s).wdog = decrementCountdown s.wdog := by
  unfold watchdogStep
  dsimp only
  split <;> rfl

/-- Settles O38: the countdown is the decremented one, and its sign and the mode decide. -/
theorem watchdogPollOutcomes : Obligations.WatchdogPollOutcomes := by
  unfold Obligations.WatchdogPollOutcomes
  refine fun s => ⟨fun hgie => ?_, exec_of_enabled rfl⟩
  refine ⟨decrementCountdown s.wdog, decrementCountdown_toInt s.wdog, ?_⟩
  rw [exec_of_suppressed hgie .wdpoll]
  exact ⟨fun hstays => congrArg Host.Outcome.next (watchdogStep_of_stays hstays),
    fun hneg hfast => congrArg Host.Outcome.next (watchdogStep_of_forces hneg hfast)⟩

/-! ### Polls without a compare-match (R174, R175, spec/90_conflicts.md C3) -/

/-- The countdown after `n` polls. -/
def countdownAfter (n : Nat) (w : Countdown) : Countdown :=
  BitVec.ofInt 8 (max (w.toInt - n) (-128))

theorem countdownAfter_toInt (n : Nat) (w : Countdown) :
    (countdownAfter n w).toInt = max (w.toInt - n) (-128) := by
  have hwidth : w.toInt < 128 := BitVec.toInt_lt
  exact BitVec.toInt_ofInt_eq_self (by decide) (by omega) (by omega)

theorem countdownAfter_zero (w : Countdown) : countdownAfter 0 w = w := by
  have hwidth : -128 ≤ w.toInt := BitVec.le_toInt w
  apply BitVec.eq_of_toInt_eq
  rw [countdownAfter_toInt]
  omega

theorem decrementCountdown_countdownAfter (n : Nat) (w : Countdown) :
    decrementCountdown (countdownAfter n w) = countdownAfter (n + 1) w := by
  apply BitVec.eq_of_toInt_eq
  rw [decrementCountdown_toInt, countdownAfter_toInt, countdownAfter_toInt]
  omega

theorem exec_wdpoll_of_suppressed {s t : State} (hgie : s.gie = false) (h : watchdogStep s = t) :
    exec .wdpoll s = .next t :=
  (exec_of_suppressed hgie .wdpoll).trans (congrArg Host.Outcome.next h)

/-- What `n` polls leave while none of them forces the transition. -/
def afterPolls (n : Nat) (s : State) : State :=
  { s with wdog := countdownAfter n s.wdog }

theorem afterPolls_zero (s : State) : afterPolls 0 s = s := by
  rw [afterPolls, countdownAfter_zero]

/-- Up to the countdown's value the polls only count. -/
theorem runCommands_polls_within_countdown {s : State} {n : Nat} (hgie : s.gie = false)
    (hn : (n : Int) ≤ s.wdog.toInt) :
    runCommands (List.replicate n .wdpoll) s = .next (afterPolls n s) := by
  induction n with
  | zero => exact congrArg Host.Outcome.next (afterPolls_zero s).symm
  | succ n ih =>
    have hnonneg : 0 ≤ (decrementCountdown (afterPolls n s).wdog).toInt := by
      rw [afterPolls, decrementCountdown_countdownAfter, countdownAfter_toInt]
      omega
    have hpoll : watchdogStep (afterPolls n s) = afterPolls (n + 1) s := by
      rw [watchdogStep_of_stays (.inl hnonneg), afterPolls, decrementCountdown_countdownAfter]
      rfl
    rw [List.replicate_succ']
    exact runCommands_concat (ih (by omega)) (exec_wdpoll_of_suppressed hgie hpoll)

/-- The first poll past the countdown's value forces the transition, and the later ones, which find
Slow active, only count. -/
theorem runCommands_polls_past_countdown {s : State} {C n : Nat} (hgie : s.gie = false)
    (hfast : s.active = .fast) (hC : s.wdog.toInt = C) (hn : C < n) :
    runCommands (List.replicate n .wdpoll) s = .next (forceSlow (afterPolls n s)) := by
  induction n, hn using Nat.le_induction with
  | base =>
    have hneg : (decrementCountdown (afterPolls C s).wdog).toInt < 0 := by
      rw [afterPolls, decrementCountdown_countdownAfter, countdownAfter_toInt]
      omega
    have hpoll : watchdogStep (afterPolls C s) = forceSlow (afterPolls (C + 1) s) := by
      rw [watchdogStep_of_forces hneg hfast, afterPolls, decrementCountdown_countdownAfter]
      rfl
    rw [List.replicate_succ']
    exact runCommands_concat (runCommands_polls_within_countdown hgie hC.ge)
      (exec_wdpoll_of_suppressed hgie hpoll)
  | succ n hn ih =>
    have hpoll : watchdogStep (forceSlow (afterPolls n s)) = forceSlow (afterPolls (n + 1) s) := by
      rw [watchdogStep_of_stays (.inr rfl), forceSlow_wdog, afterPolls,
        decrementCountdown_countdownAfter]
      rfl
    rw [List.replicate_succ']
    exact runCommands_concat ih (exec_wdpoll_of_suppressed hgie hpoll)

/-- Settles O39: up to the countdown's value the minimum is out of reach. -/
theorem watchdogForcesSlowExactlyOnce : Obligations.WatchdogForcesSlowExactlyOnce := by
  unfold Obligations.WatchdogForcesSlowExactlyOnce
  intro s C n hgie hfast hC
  constructor
  · intro hn
    have hcount : max ((C : Int) - n) (-128) = (C : Int) - n := by omega
    rw [runCommands_polls_within_countdown hgie (by omega), afterPolls, countdownAfter, hC, hcount]
  · intro hn
    rw [runCommands_polls_past_countdown hgie hfast hC hn, afterPolls, countdownAfter, hC]
    rfl

/-! ### Who writes the watchdog (R175) -/

theorem runsHandler_iff {src : IntSource} {i : Instr} {s : State} :
    runsHandler src i s = true ↔ i = .irq ∧ selectInterrupt s = some src := by
  rw [runsHandler, Bool.and_eq_true, decide_eq_true_iff, decide_eq_true_iff]

/-- Outside a dispatch point only `WDPOLL`, `FORCE` and `RESET` write a handler's register. -/
theorem commandEffect_handlerRegisters_of_ne_irq {i : Instr}
    (hi : leavesWatchdogAndMode i = true) (hirq : i ≠ .irq) (s : State) :
    handlerRegisters (commandEffect i s) = handlerRegisters s := by
  cases i with
  | irq => exact absurd rfl hirq
  | edge => exact edgeEffect_handlerRegisters s
  | snap => exact snapshot_handlerRegisters s
  | nop | tick _ | cli | sei | nowa | nowb | nowc | now | freq _ _ | freqs | rd _ => rfl
  | wdpoll | force | reset => cases hi

theorem commandEffect_watchdogAndMode {i : Instr} (hi : leavesWatchdogAndMode i = true)
    (hirq : i ≠ .irq) (s : State) :
    (commandEffect i s).wdog = s.wdog ∧ (commandEffect i s).active = s.active := by
  have hregs := commandEffect_handlerRegisters_of_ne_irq hi hirq s
  simp only [handlerRegisters, Prod.mk.injEq] at hregs
  simp only [hregs, and_self]

theorem isrEdge_wdog (s : State) : (isrEdge s).wdog = s.wdog := by
  obtain ⟨-, h⟩ | ⟨-, -, h⟩ | ⟨-, -, h⟩ := isrEdge_cases s <;> rw [h]
  rfl

theorem dispatch_wdog_of_compareMatch {s : State} (h : selectInterrupt s = some .compareMatch) :
    (dispatch s).wdog = s.cfg.ceiling := by
  rw [dispatch_of_select h]
  exact isrCmp_wdog _

theorem dispatch_wdog_of_not_compareMatch {s : State}
    (h : selectInterrupt s ≠ some .compareMatch) : (dispatch s).wdog = s.wdog := by
  obtain ⟨-, heq⟩ | ⟨hselect, -⟩ | ⟨-, heq⟩ | ⟨-, heq⟩ := dispatch_cases s
  · rw [heq, isrEdge_wdog]
  · exact absurd hselect h
  · rw [heq]
    rfl
  · rw [heq]

/-- `FORCE` is not among the writers: the forced transition leaves the countdown alone. -/
theorem commandEffect_wdog_of_no_writer {i : Instr} {s : State}
    (hruns : runsHandler .compareMatch i s = false) (hreset : i ≠ .reset) (hpoll : i ≠ .wdpoll) :
    (commandEffect i s).wdog = s.wdog := by
  cases i with
  | irq =>
    refine dispatch_wdog_of_not_compareMatch fun hselect => ?_
    exact absurd (runsHandler_iff.2 ⟨rfl, hselect⟩) (by simp [hruns])
  | force => rfl
  | reset => exact absurd rfl hreset
  | wdpoll => exact absurd rfl hpoll
  | nop | tick _ | edge | cli | sei | nowa | nowb | nowc | now | snap | freq _ _ | freqs | rd _ =>
    exact (commandEffect_watchdogAndMode (by rfl) (by nofun) s).1

/-- Settles O42, by the writer. -/
theorem watchdogWriters : Obligations.WatchdogWriters := by
  unfold Obligations.WatchdogWriters
  intro i s t hexec
  obtain ⟨-, rfl⟩ := exec_next_iff.1 hexec
  refine ⟨?_, ?_, commandEffect_wdog_of_no_writer⟩
  · rintro (hruns | rfl)
    · obtain ⟨rfl, hselect⟩ := runsHandler_iff.1 hruns
      exact dispatch_wdog_of_compareMatch hselect
    · rfl
  · rintro rfl
    exact (congrArg BitVec.toInt (watchdogStep_wdog s)).trans (decrementCountdown_toInt s.wdog)

/-! ### How the mode changes (R177) -/

/-- `ISR_EDGE` changes the mode by the emergency escalation alone, which ends in Fast. -/
theorem escalates_of_isrEdge_active_ne {s : State} (h : (isrEdge s).active ≠ s.active) :
    s.sAwait = false ∧ slowPeriod s < s.cfg.esc ∧ (isrEdge s).active = .fast := by
  obtain ⟨-, heq⟩ | ⟨-, -, heq⟩ | ⟨hawait, hshort, heq⟩ := isrEdge_cases s
  · exact absurd (congrArg State.active heq) h
  · exact absurd (congrArg State.active heq) h
  · exact ⟨hawait, hshort, congrArg State.active heq⟩

/-- `ISR_CMP` changes the mode only in a firing run with a period. -/
theorem hasPeriod_of_isrCmp_active_ne {s : State} (h : (isrCmp s).active ≠ s.active) :
    fires s = true ∧ s.fAwait = false := by
  obtain ⟨-, heq⟩ | ⟨-, -, heq⟩ | ⟨hfires, hwindow, -⟩ := isrCmp_cases s
  · exact absurd (congrArg State.active heq) h
  · exact absurd (congrArg State.active heq) h
  · exact ⟨hfires, hwindow⟩

theorem fireWithPeriod_active_of_slow {s : State} (hslow : s.active = .slow) {t : Tick}
    (hfast : (fireWithPeriod t s).active = .fast) :
    (windowPeriod t s < s.cfg.low ∧ s.fPlog.toNat < 20) ∨ s.sPeriod.toNat < s.cfg.low := by
  by_contra hstays
  rw [fireWithPeriod_of_slow hslow, if_neg hstays] at hfast
  exact nomatch hslow.symm.trans hfast

theorem fireWithPeriod_active_of_fast {s : State} (hfast : s.active = .fast) {t : Tick}
    (hslow : (fireWithPeriod t s).active = .slow) :
    s.cfg.high < (adaptedAt t s).2 ∧ (adaptedAt t s).1 = 1 := by
  by_contra hstays
  rw [fireWithPeriod_of_fast hfast, if_neg hstays] at hslow
  exact nomatch hfast.symm.trans hslow

/-- `ISR_CMP` makes Fast active by one of the two promotions. -/
theorem isrCmp_slow_to_fast {s : State} (hslow : s.active = .slow)
    (hfast : (isrCmp s).active = .fast) :
    fires s = true ∧ s.fAwait = false ∧
      ((fastPeriod s < s.cfg.low ∧ s.fPlog.toNat < nmax) ∨ s.sPeriod.toNat < s.cfg.low) := by
  obtain ⟨hfires, hwindow⟩ := hasPeriod_of_isrCmp_active_ne (s := s) (by simp [hslow, hfast])
  rw [isrCmp_of_window hfires hwindow] at hfast
  exact ⟨hfires, hwindow, fireWithPeriod_active_of_slow
    (s := { s with wdog := s.cfg.ceiling, xcnt := 0 }) hslow hfast⟩

/-- `ISR_CMP` makes Slow active by de-escalation alone. -/
theorem isrCmp_fast_to_slow {s : State} (hfast : s.active = .fast)
    (hslow : (isrCmp s).active = .slow) :
    fires s = true ∧ s.fAwait = false ∧
      s.cfg.high < (adaptExponent s.cfg s.fPlog.toNat (fastPeriod s)).2 ∧
      (adaptExponent s.cfg s.fPlog.toNat (fastPeriod s)).1 = 1 := by
  obtain ⟨hfires, hwindow⟩ := hasPeriod_of_isrCmp_active_ne (s := s) (by simp [hslow, hfast])
  rw [isrCmp_of_window hfires hwindow] at hslow
  exact ⟨hfires, hwindow, fireWithPeriod_active_of_fast
    (s := { s with wdog := s.cfg.ceiling, xcnt := 0 }) hfast hslow⟩

/-- A dispatch point makes Fast active by the escalation or by one of the two promotions. -/
theorem dispatch_slow_to_fast {s : State} (hslow : s.active = .slow)
    (hfast : (dispatch s).active = .fast) :
    (selectInterrupt s = some .edgeDetect ∧ s.sAwait = false ∧ slowPeriod s < s.cfg.esc) ∨
      (selectInterrupt s = some .compareMatch ∧ fires s = true ∧ s.fAwait = false ∧
        ((fastPeriod s < s.cfg.low ∧ s.fPlog.toNat < nmax) ∨ s.sPeriod.toNat < s.cfg.low)) := by
  have hne : (dispatch s).active ≠ s.active := by simp [hslow, hfast]
  obtain ⟨hselect, heq⟩ | ⟨hselect, heq⟩ | ⟨-, heq⟩ | ⟨-, heq⟩ := dispatch_cases s <;>
    rw [heq] at hne hfast
  · obtain ⟨hawait, hshort, -⟩ := escalates_of_isrEdge_active_ne hne
    exact .inl ⟨hselect, hawait, hshort⟩
  · exact .inr ⟨hselect, isrCmp_slow_to_fast (s := { s with cmf := false }) hslow hfast⟩
  · exact absurd rfl hne
  · exact absurd rfl hne

/-- A dispatch point makes Slow active by de-escalation alone. -/
theorem dispatch_fast_to_slow {s : State} (hfast : s.active = .fast)
    (hslow : (dispatch s).active = .slow) :
    selectInterrupt s = some .compareMatch ∧ fires s = true ∧ s.fAwait = false ∧
      s.cfg.high < (adaptExponent s.cfg s.fPlog.toNat (fastPeriod s)).2 ∧
      (adaptExponent s.cfg s.fPlog.toNat (fastPeriod s)).1 = 1 := by
  have hne : (dispatch s).active ≠ s.active := by simp [hslow, hfast]
  obtain ⟨-, heq⟩ | ⟨hselect, heq⟩ | ⟨-, heq⟩ | ⟨-, heq⟩ := dispatch_cases s <;>
    rw [heq] at hne hslow
  · obtain ⟨-, -, hescalated⟩ := escalates_of_isrEdge_active_ne hne
    exact nomatch hslow.symm.trans hescalated
  · exact ⟨hselect, isrCmp_fast_to_slow (s := { s with cmf := false }) hfast hslow⟩
  · exact absurd rfl hne
  · exact absurd rfl hne

theorem watchdogStep_active_of_slow {s : State} (hslow : s.active = .slow) :
    (watchdogStep s).active = .slow := by
  rw [watchdogStep_of_stays (.inr hslow)]
  exact hslow

theorem watchdogStep_wdog_neg_of_slow {s : State} (hfast : s.active = .fast)
    (hslow : (watchdogStep s).active = .slow) : (watchdogStep s).wdog.toInt < 0 := by
  rw [watchdogStep_wdog]
  by_contra hnonneg
  rw [watchdogStep_of_stays (.inl (not_lt.1 hnonneg))] at hslow
  exact nomatch hfast.symm.trans hslow

/-- Where the mode is kept, nothing is claimed about its changes. -/
theorem no_mode_change {s t : State} (h : t.active = s.active) {p q : Prop} :
    (s.active = .slow → t.active = .fast → p) ∧ (s.active = .fast → t.active = .slow → q) := by
  rw [h]
  exact ⟨fun hslow hfast => (nomatch hslow.symm.trans hfast),
    fun hfast hslow => (nomatch hfast.symm.trans hslow)⟩

/-- Settles O41, by the command: outside a dispatch point only `WDPOLL`, `FORCE` and `RESET` touch
the mode, and they only make Slow active. -/
theorem activeChangesOnlyByTheTable : Obligations.ActiveChangesOnlyByTheTable := by
  unfold Obligations.ActiveChangesOnlyByTheTable
  intro i s t hexec
  obtain ⟨-, rfl⟩ := exec_next_iff.1 hexec
  cases i with
  | irq =>
    simp only [runsHandler_iff, true_and]
    exact ⟨dispatch_slow_to_fast, fun hfast hslow => .inl (dispatch_fast_to_slow hfast hslow)⟩
  | wdpoll =>
    refine ⟨fun hslow hfast => ?_, fun hfast hslow =>
      .inr (.inl ⟨rfl, watchdogStep_wdog_neg_of_slow hfast hslow⟩)⟩
    exact nomatch (watchdogStep_active_of_slow hslow).symm.trans hfast
  | force => exact ⟨fun _ => nofun, fun _ _ => .inr (.inr (.inl rfl))⟩
  | reset => exact ⟨fun _ => nofun, fun _ _ => .inr (.inr (.inr rfl))⟩
  | nop | tick _ | edge | cli | sei | nowa | nowb | nowc | now | snap | freq _ _ | freqs | rd _ =>
    exact no_mode_change (commandEffect_watchdogAndMode (by rfl) (by nofun) s).2

end Sys2Proof.Machine
end

section
/-!
PROOFS. The statements about the Frequency Calculator (spec/44_frequency_calculator.md): what `FREQ`
and `FREQS` write (R191 to R193), how the quotient is rounded (R195), how it grows and scales
(R198), the sentinel period (R197), and calculators of two widths (R196).
-/
namespace Sys2Proof.Machine

/-! ### What `FREQ` and `FREQS` write (R192, R193) -/

theorem exec_freq (n : Exponent) (ticks : BitVec 32) (s : State) :
    exec (.freq n ticks) s = .next (calculate n.toNat ticks.toNat s) := rfl

theorem exec_freqs (s : State) :
    exec .freqs s = .next (calculate s.snapN.toNat s.snapP.toNat s) := rfl

theorem freqDHz_of_pos {k n ticks : Nat} (hticks : 0 < ticks) :
    freqDHz k n ticks = (k * 2 ^ n + ticks / 2) / ticks :=
  if_neg hticks.ne'

/-- The calculator's two outcomes (R191). -/
theorem calculate_eq (n ticks : Nat) (s : State) :
    calculate n ticks s =
      if ticks = 0 then { s with fq := 0, fqu := true }
      else { s with
        fq := BitVec.ofNat 64 ((s.cfg.k * 2 ^ n + ticks / 2) / ticks)
        fqu := false } := by
  split
  case isTrue hzero => subst hzero; rfl
  case isFalse hne =>
    rw [calculate, freqDHz_of_pos (Nat.pos_of_ne_zero hne), undefinedMeasurement,
      decide_eq_false hne]

/-- Settles O44: both commands run the calculator, `FREQS` on the snapshot. -/
theorem calculatorCommandResults : Obligations.CalculatorCommandResults := by
  unfold Obligations.CalculatorCommandResults
  exact fun s n ticks =>
    ⟨fun _ => (exec_freq n ticks s).trans (congrArg Host.Outcome.next (calculate_eq ..)),
      fun _ => (exec_freqs s).trans (congrArg Host.Outcome.next (calculate_eq ..))⟩

/-! ### Rounding (R195) -/

/-- The rounded quotient exceeds `p` exactly when the true quotient reaches `p + 1/2`: the one fact
about rounding that the bounds and the monotony follow from. -/
theorem lt_freqDHz_iff {k n ticks p : Nat} (hticks : 0 < ticks) :
    p < freqDHz k n ticks ↔ (2 * p + 1) * ticks ≤ 2 * (k * 2 ^ n) := by
  have hdouble : (2 * p + 1) * ticks = 2 * (p * ticks) + ticks := by ring
  rw [freqDHz_of_pos hticks, Nat.lt_iff_add_one_le, Nat.le_div_iff_mul_le hticks, Nat.succ_mul,
    hdouble]
  omega

/-- The other half of `lt_freqDHz_iff`: the result is at most `p` when the true quotient is below
`p + 1/2`. -/
theorem freqDHz_le_iff {k n ticks p : Nat} (hticks : 0 < ticks) :
    freqDHz k n ticks ≤ p ↔ 2 * (k * 2 ^ n) < (2 * p + 1) * ticks := by
  rw [← not_lt, lt_freqDHz_iff hticks, not_le]

/-- R195's rule: the quotient, one more when the remainder and half the divisor reach the
divisor. -/
theorem freqDHz_eq_div_add {k n ticks : Nat} (hticks : 0 < ticks) :
    freqDHz k n ticks =
      k * 2 ^ n / ticks + (if ticks ≤ k * 2 ^ n % ticks + ticks / 2 then 1 else 0) := by
  have hhalf : ticks / 2 < ticks := Nat.div_lt_self hticks Nat.one_lt_two
  rw [freqDHz_of_pos hticks, Nat.add_div hticks, Nat.div_eq_of_lt hhalf, Nat.mod_eq_of_lt hhalf,
    Nat.add_zero]

/-- The result is at most one half above the true quotient. -/
theorem two_mul_freqDHz_mul_le {k n ticks : Nat} (hticks : 0 < ticks) :
    2 * (freqDHz k n ticks * ticks) ≤ 2 * (k * 2 ^ n) + ticks := by
  cases hresult : freqDHz k n ticks with
  | zero => omega
  | succ p =>
    have hbelow := (lt_freqDHz_iff hticks).1 (hresult ▸ Nat.lt_add_one p)
    calc 2 * ((p + 1) * ticks) = (2 * p + 1) * ticks + ticks := by ring
      _ ≤ 2 * (k * 2 ^ n) + ticks := Nat.add_le_add_right hbelow ticks

/-- The true quotient is less than one half above the result. -/
theorem lt_two_mul_freqDHz_mul {k n ticks : Nat} (hticks : 0 < ticks) :
    2 * (k * 2 ^ n) < 2 * (freqDHz k n ticks * ticks) + ticks := by
  calc 2 * (k * 2 ^ n) < (2 * freqDHz k n ticks + 1) * ticks := (freqDHz_le_iff hticks).1 le_rfl
    _ = 2 * (freqDHz k n ticks * ticks) + ticks := by ring

/-- Settles O45: the rule of R195, and the two sides of the nearest integer. -/
theorem calculatorRoundsHalfUp : Obligations.CalculatorRoundsHalfUp := by
  unfold Obligations.CalculatorRoundsHalfUp
  exact fun k n ticks hticks => ⟨freqDHz_eq_div_add hticks, two_mul_freqDHz_mul_le hticks,
    lt_two_mul_freqDHz_mul hticks⟩

/-! ### The largest result (R191) -/

/-- The dividend itself bounds the result: a divisor is 1 at least. -/
theorem freqDHz_le (k n ticks : Nat) : freqDHz k n ticks ≤ k * 2 ^ n := by
  obtain rfl | hticks := ticks.eq_zero_or_pos
  · exact Nat.zero_le _
  · rw [freqDHz_le_iff hticks]
    exact (Nat.lt_succ_self _).trans_le (Nat.le_mul_of_pos_right _ hticks)

theorem freqDHz_lt_of_le_nmax {k n : Nat} (hk : k < 2 ^ 32) (hn : n ≤ nmax) (ticks : Nat) :
    freqDHz k n ticks < 2 ^ 52 := by
  calc freqDHz k n ticks ≤ k * 2 ^ n := freqDHz_le k n ticks
    _ ≤ k * 2 ^ nmax := Nat.mul_le_mul_left k (Nat.pow_le_pow_right Nat.two_pos hn)
    _ < 2 ^ 32 * 2 ^ nmax := Nat.mul_lt_mul_of_pos_right hk (Nat.two_pow_pos nmax)
    _ = 2 ^ 52 := rfl

/-- Settles O46: the result is below `2^52`, so the 64 bits of `FQ` keep it whole. -/
theorem calculatorNeverTruncates : Obligations.CalculatorNeverTruncates := by
  unfold Obligations.CalculatorNeverTruncates
  intro s n ticks ⟨_, _, _, _, ⟨_, hk⟩, _⟩ hn
  have hbound := freqDHz_lt_of_le_nmax hk hn ticks.toNat
  have hfq : (calculate n.toNat ticks.toNat s).fq.toNat =
      freqDHz s.cfg.k n.toNat ticks.toNat := by
    rw [calculate, BitVec.toNat_ofNat, Nat.mod_eq_of_lt (hbound.trans (by decide))]
  exact ⟨_, exec_freq n ticks s, hfq, hfq ▸ hbound⟩

/-! ### Scaling and monotony (R198) -/

theorem freqDHz_succ_two_mul (k n ticks : Nat) :
    freqDHz k (n + 1) (2 * ticks) = freqDHz k n ticks := by
  obtain rfl | hticks := ticks.eq_zero_or_pos
  · rfl
  · have hnumerator : k * 2 ^ (n + 1) + 2 * ticks / 2 = 2 * (k * 2 ^ n) + ticks := by
      rw [Nat.mul_div_cancel_left ticks Nat.two_pos]; ring
    have hhalved : (2 * (k * 2 ^ n) + ticks) / 2 = k * 2 ^ n + ticks / 2 := by omega
    rw [freqDHz_of_pos (Nat.mul_pos Nat.two_pos hticks), freqDHz_of_pos hticks, hnumerator,
      ← Nat.div_div_eq_div_mul, hhalved]

theorem freqDHz_antitone_ticks {k n ticks more : Nat} (hticks : 0 < ticks) (hmore : ticks ≤ more) :
    freqDHz k n more ≤ freqDHz k n ticks := by
  refine le_of_forall_lt fun p hp => ?_
  rw [lt_freqDHz_iff (hticks.trans_le hmore)] at hp
  exact (lt_freqDHz_iff hticks).2 ((Nat.mul_le_mul_left _ hmore).trans hp)

theorem freqDHz_mono_exponent {k n m ticks : Nat} (hticks : 0 < ticks) (hnm : n ≤ m) :
    freqDHz k n ticks ≤ freqDHz k m ticks := by
  rw [freqDHz_of_pos hticks, freqDHz_of_pos hticks]
  have hproduct : k * 2 ^ n ≤ k * 2 ^ m :=
    Nat.mul_le_mul_left k (Nat.pow_le_pow_right Nat.two_pos hnm)
  exact Nat.div_le_div_right (Nat.add_le_add_right hproduct _)

/-- Settles O47. -/
theorem calculatorScalingAndMonotony : Obligations.CalculatorScalingAndMonotony := by
  unfold Obligations.CalculatorScalingAndMonotony
  exact fun k n ticks hticks => ⟨freqDHz_succ_two_mul k n ticks,
    fun _ => freqDHz_antitone_ticks hticks, fun _ => freqDHz_mono_exponent hticks⟩

/-! ### The sentinel period (R197) -/

/-- Settles O48: half of `2^32 - 1` is `2^31 - 1`, so the dividend stays below the divisor up to
`2^31`. -/
theorem sentinelPeriodReadsAsZero : Obligations.SentinelPeriodReadsAsZero := by
  unfold Obligations.SentinelPeriodReadsAsZero
  intro k n
  have hsentinel : periodMax.toNat = 2 ^ 32 - 1 := rfl
  rw [freqDHz_eq_zero_iff (by decide), hsentinel]
  omega

/-! ### Calculators of two widths (R196) -/

theorem toNat_ofNat_add_ofNat_eq_iff {w a b : Nat} :
    (BitVec.ofNat w a + BitVec.ofNat w b).toNat = a + b ↔ a + b < 2 ^ w := by
  rw [← BitVec.ofNat_add, BitVec.toNat_ofNat, Nat.mod_eq_iff_lt (Nat.two_pow_pos w).ne']

/-- The narrow path is right whenever its 32-bit numerator does not wrap. -/
theorem freqDHzNarrow_eq {k n ticks : Nat} (hfits : k * 2 ^ n + ticks / 2 < 2 ^ 32) :
    freqDHzNarrow k n ticks = freqDHz k n ticks := by
  rw [freqDHzNarrow, toNat_ofNat_add_ofNat_eq_iff.2 hfits, freqDHz]

/-- Settles O49: half of a 32-bit operand stays below `2^31`, so a product up to `2^31` leaves the
numerator room. -/
theorem twoWidthCalculatorAgrees : Obligations.TwoWidthCalculatorAgrees := by
  unfold Obligations.TwoWidthCalculatorAgrees
  refine ⟨fun k n ticks _ => toNat_ofNat_add_ofNat_eq_iff, fun c hnarrow n ticks hticks => ?_⟩
  rw [freqDHzTwoWidth]
  split
  case isTrue hn => exact freqDHzNarrow_eq (by have hproduct := hnarrow n hn; omega)
  case isFalse => rfl

end Sys2Proof.Machine
end

section
/-!
PROOFS. The statements about dispatch and host control (spec/45_host_control.md): `RESET` (R210),
`NOP`, `CLI` and `SEI` (R205, R207, R208), which handler an `IRQ` runs (R206), and what an `RD`
reads (R209).
-/
namespace Sys2Proof.Machine

/-! ### Commands outside the guard of R211 -/

theorem exec_of_unguarded {i : Instr} (hi : needsSuppression i = false) (s : State) :
    exec i s = .next (commandEffect i s) :=
  exec_next_iff.2 ⟨by simp [hi], rfl⟩

/-- Settles O11: the state `RESET` leaves is closed but for the ceiling, so its registers are read
off; the two that are hardwired read 0 in every state. -/
theorem resetCommandResetsEveryRegister : Obligations.ResetCommandResetsEveryRegister := by
  unfold Obligations.ResetCommandResetsEveryRegister
  intro s
  refine ⟨_, exec_of_unguarded (i := .reset) rfl s, ?counters, ?slow, ?fast, ?mode, ?latches⟩
  case slow => exact ⟨rfl, readReg_sRlog _, readReg_sPlog _, rfl, rfl⟩
  all_goals and_intros <;> rfl

/-- Settles O51: none of the three is guarded, and their effects are the writes stated. -/
theorem suppressionCommands : Obligations.SuppressionCommands := by
  unfold Obligations.SuppressionCommands
  exact fun s => ⟨exec_of_unguarded (i := .nop) rfl s, exec_of_unguarded (i := .cli) rfl s,
    exec_of_unguarded (i := .sei) rfl s⟩

/-! ### Which handler a dispatch point runs (R206) -/

theorem exec_irq_of_suppressed {s : State} (hgie : s.gie = false) : exec .irq s = .next s :=
  (execIrq_eq s).trans (congrArg Host.Outcome.next (dispatch_suppressed hgie))

theorem exec_irq_of_overflow {s : State} (hgie : s.gie = true)
    (hedge : (s.edgf && s.edgeIe) = false) (hcmf : s.cmf = false) (htov : s.tov = true) :
    exec .irq s = .next (isrOvf { s with tov := false }) := by
  have hselect : selectInterrupt s = some .clockOverflow :=
    selectInterrupt_clockOverflow_iff.2 ⟨hgie, hedge, hcmf, htov⟩
  exact (execIrq_eq s).trans (congrArg Host.Outcome.next (dispatch_of_select hselect))

theorem exec_irq_of_idle {s : State} (hedge : (s.edgf && s.edgeIe) = false)
    (hcmf : s.cmf = false) (htov : s.tov = false) : exec .irq s = .next s := by
  have hselect : selectInterrupt s = none := by simp [selectInterrupt, hedge, hcmf, htov]
  exact (execIrq_eq s).trans (by rw [dispatch, hselect])

/-- Settles O52, one branch of R206's pseudocode at a time. -/
theorem dispatchPicksTheHighestPriority : Obligations.DispatchPicksTheHighestPriority := by
  unfold Obligations.DispatchPicksTheHighestPriority
  intro s
  split_ifs with hgie hedge hcmf htov
  · exact exec_irq_of_suppressed hgie
  · exact exec_irq_of_edge_pending (by simpa using hgie) hedge.1 hedge.2
  · exact exec_irq_of_compareMatch (by simpa using hgie) hcmf (by simpa using hedge)
  · exact exec_irq_of_overflow (by simpa using hgie) (by simpa using hedge) (by simpa using hcmf)
      htov
  · exact exec_irq_of_idle (by simpa using hedge) (by simpa using hcmf) (by simpa using htov)

/-! ### What an `RD` reads (R209) -/

theorem flagValue_toNat (b : Bool) : (flagValue b).toNat = bit b := by
  cases b <;> rfl

/-- Zero extension into `DOUT` keeps the unsigned value of a register of at most 64 bits. -/
theorem toNat_setWidth_dout {w : Nat} (v : BitVec w) (hw : w ≤ 64 := by decide) :
    (v.setWidth 64).toNat = v.toNat :=
  BitVec.toNat_setWidth_of_le hw

/-- Settles O57, register by register: a flag, a mode, a hardwired zero, a 64-bit register, or a
narrower one zero-extended. -/
theorem readCopiesTheRegister : Obligations.ReadCopiesTheRegister := by
  unfold Obligations.ReadCopiesTheRegister
  intro s
  refine ⟨fun r => exec_of_unguarded (i := .rd r) rfl s, ?counters, ?slow, ?fast, ?mode, ?latches⟩
  case counters =>
    exact ⟨toNat_setWidth_dout s.tcnt, flagValue_toNat s.tov, toNat_setWidth_dout s.sovf,
      toNat_setWidth_dout s.ecnt, toNat_setWidth_dout s.ek, flagValue_toNat s.cmf,
      flagValue_toNat s.edgf, flagValue_toNat s.edgeIe, flagValue_toNat s.gie,
      toNat_setWidth_dout s.xcnt, toNat_setWidth_dout s.xlim⟩
  case slow =>
    exact ⟨toNat_setWidth_dout s.sPeriod, readReg_sRlog s, readReg_sPlog s,
      flagValue_toNat s.sAwait, toNat_setWidth_dout s.sStart⟩
  case fast =>
    exact ⟨toNat_setWidth_dout s.fPeriod, toNat_setWidth_dout s.fRlog,
      toNat_setWidth_dout s.fPlog, flagValue_toNat s.fAwait, toNat_setWidth_dout s.fStart⟩
  case mode =>
    refine ⟨?_, toNat_setWidth_dout s.wdog⟩
    rw [readReg]
    cases s.active <;> rfl
  case latches =>
    exact ⟨toNat_setWidth_dout s.lOvf, toNat_setWidth_dout s.lLo, toNat_setWidth_dout s.nowv,
      toNat_setWidth_dout s.snapN, toNat_setWidth_dout s.snapP, rfl, flagValue_toNat s.fqu, rfl⟩

end Sys2Proof.Machine
end

section
/-!
PROOFS. The statements about faults (spec/60_exceptions.md): which command faults with `FLT2`, and
when (R252, R211).
-/
namespace Sys2Proof.Machine

/-- Settles O54: `exec` is R211's guard on the seven commands and the command's effect, so a command
outside the guard, or inside a critical section, answers its effect. -/
theorem onlyUnprotectedAccessFaults : Obligations.OnlyUnprotectedAccessFaults := by
  unfold Obligations.OnlyUnprotectedAccessFaults
  intro i s
  refine ⟨fun ⟨hguarded, hgie⟩ => exec_of_enabled hguarded hgie, ?completes⟩
  case completes =>
    rintro (hunguarded | hgie)
    · exact ⟨commandEffect i s, exec_of_unguarded hunguarded s⟩
    · exact ⟨commandEffect i s, exec_of_suppressed hgie i⟩

end Sys2Proof.Machine
end

section
/-!
PROOFS. The statements about reset and hazards (spec/70_reset_and_hazards.md): what a window of zero
ticks does in each counter (R286), and the watchdog against a fresh escalation (R279).
-/
namespace Sys2Proof.Machine

/-- A Slow window below `ESC` escalates, whatever else is pending (R133 steps 3 to 5). -/
theorem exec_irq_of_escalation {s : State} (hgie : s.gie = true) (hedgf : s.edgf = true)
    (hie : s.edgeIe = true) (hawait : s.sAwait = false) (hshort : slowPeriod s < s.cfg.esc) :
    exec .irq s = .next (escalate (nowTick s) { s with
      sPeriod := elapsedTicks (nowTick s) s.sStart, sStart := nowTick s, sRlog := .zero }) := by
  obtain ⟨-, -, hescalates⟩ := edgeHandlerOutcomes s hgie hedgf hie
  exact hescalates hawait hshort

/-! ### A window of zero ticks (R286) -/

/-- Doubling 0 leaves 0, so the up-loop uses all its room. -/
theorem raiseExponent_zero {low : Nat} (hlow : 0 < low) (room e : Nat) :
    raiseExponent low room e 0 = (e + room, 0) := by
  induction room generalizing e with
  | zero => rfl
  | succ room ih =>
    rw [raiseExponent, if_pos hlow, Nat.mul_zero, ih, Nat.add_right_comm, Nat.add_assoc]

/-- A period of 0 takes the exponent to `NMAX` in one adaptation: by branch A from below, and from
`NMAX` itself by staying there. -/
theorem adaptExponent_zero {c : Config} (hlow : 0 < c.low) {e : Nat} (he : e ≤ nmax) :
    adaptExponent c e 0 = (nmax, 0) := by
  by_cases hroom : e < 20
  · have hbranch : takesBranchA c e 0 = true := takesBranchA_iff.2 ⟨hlow, hroom⟩
    rw [adaptExponent, if_pos hbranch, raiseExponent_zero hlow, Nat.add_sub_cancel' he]
  · have htop : e = 20 := Nat.le_antisymm he (Nat.not_lt.1 hroom)
    subst htop
    have hbranch : takesBranchA c 20 0 ≠ true := fun h => hroom (takesBranchA_iff.1 h).2
    rw [adaptExponent, if_neg hbranch]
    exact if_neg (Nat.not_lt_zero _)

/-- Whatever the mode becomes, a firing run stores the window's period and programs the adapted
exponent. -/
theorem fireWithPeriod_record (t : Tick) (s : State) :
    (fireWithPeriod t s).fPeriod = elapsedTicks t s.fStart ∧
      (fireWithPeriod t s).fPlog = BitVec.ofNat 5 (adaptedAt t s).1 ∧
      (fireWithPeriod t s).ek = hardwareLimit (adaptedAt t s).1 ∧
      (fireWithPeriod t s).xlim = softwareLimit (adaptedAt t s).1 := by
  cases hactive : s.active with
  | fast =>
    rw [fireWithPeriod_of_fast hactive]
    split <;> exact ⟨rfl, rfl, rfl, rfl⟩
  | slow =>
    rw [fireWithPeriod_of_slow hactive]
    split <;> exact ⟨rfl, rfl, rfl, rfl⟩

/-- Settles O36: Slow escalates because `0 < ESC`, and Fast's adaptation ends at `NMAX`. -/
theorem zeroLengthWindows : Obligations.ZeroLengthWindows := by
  unfold Obligations.ZeroLengthWindows
  intro s hinv hgie hlow hesc
  refine ⟨fun hedgf hawait hzero => ?slow, fun hedgf hcmf hfires hawait hzero => ?fast⟩
  case slow =>
    have hperiod : elapsedTicks (nowTick s) s.sStart = 0 := BitVec.eq_of_toNat_eq hzero
    exact ⟨_, exec_irq_of_escalation hgie hedgf (hinv.edgfEnabled hedgf) hawait (hzero ▸ hesc),
      hperiod, rfl⟩
  case fast =>
    have hperiod : elapsedTicks (nowTick s) s.fStart = 0 := BitVec.eq_of_toNat_eq hzero
    have hadapted : adaptedAt (nowTick s) (countedMatch s) = (nmax, 0) :=
      (congrArg (adaptExponent s.cfg s.fPlog.toNat) hzero).trans
        (adaptExponent_zero hlow hinv.fPlogHigh)
    obtain ⟨hstored, hplog, hek, hxlim⟩ := fireWithPeriod_record (nowTick s) (countedMatch s)
    rw [hadapted] at hplog hek hxlim
    exact ⟨_, exec_irq_of_window hgie hcmf (by simp [hedgf]) hfires hawait,
      hstored.trans hperiod, hplog, hek, hxlim⟩

/-! ### The watchdog against a fresh escalation (R279) -/

/-- The escalation at tick `start` stands, Fast has not seen its first edge, and the countdown is at
0 or below. -/
structure FreshlyEscalated (start : Tick) (s : State) : Prop where
  fast : s.active = .fast
  edgeDisabled : s.edgeIe = false
  awaits : s.fAwait = true
  startsAt : s.fStart = start
  countdown : s.wdog.toInt ≤ 0

/-- The escalation at tick `start` is undone: Slow is active and freshly started, and Fast is left
as the escalation left it. -/
def EscalationUndone (start : Tick) (s : State) : Prop :=
  s.active = .slow ∧ s.edgeIe = true ∧ s.sPeriod = periodMax ∧ s.sAwait = true ∧ s.sStart = 0 ∧
    s.fAwait = true ∧ s.fStart = start ∧ s.wdog.toInt < 0

namespace FreshlyEscalated

/-- The escalation does not write the countdown. -/
theorem escalate {s : State} (hwdog : s.wdog.toInt ≤ 0) (t : Tick) :
    FreshlyEscalated t (escalate t s) :=
  ⟨rfl, rfl, rfl, rfl, hwdog⟩

theorem congr {start : Tick} {s t : State} (hs : FreshlyEscalated start s)
    (h : handlerRegisters t = handlerRegisters s) : FreshlyEscalated start t := by
  simp only [handlerRegisters, Prod.mk.injEq] at h
  obtain ⟨hfast, hie, hawait, hstart, hwdog⟩ := hs
  constructor <;> simp only [h, hfast, hie, hawait, hstart, hwdog]

/-- With the edge interrupt disabled a dispatch point runs `ISR_CMP`, or `ISR_OVF`, which writes no
register named here, or nothing. -/
theorem dispatch {start : Tick} {s : State} (hs : FreshlyEscalated start s)
    (hselect : selectInterrupt s ≠ some .compareMatch) : FreshlyEscalated start (dispatch s) := by
  obtain ⟨hedge, -⟩ | ⟨hcompare, -⟩ | ⟨-, heq⟩ | ⟨-, heq⟩ := dispatch_cases s
  · obtain ⟨-, -, hie⟩ := selectInterrupt_edgeDetect_iff.1 hedge
    exact absurd hie (by simp [hs.edgeDisabled])
  · exact absurd hcompare hselect
  · rw [heq]
    exact ⟨hs.fast, hs.edgeDisabled, hs.awaits, hs.startsAt, hs.countdown⟩
  · rwa [heq]

theorem commandEffect {start : Tick} {s : State} (hs : FreshlyEscalated start s) {i : Instr}
    (hi : leavesWatchdogAndMode i = true) (hruns : runsHandler .compareMatch i s = false) :
    FreshlyEscalated start (commandEffect i s) := by
  by_cases hirq : i = .irq
  · subst hirq
    refine hs.dispatch fun hselect => ?_
    exact absurd (runsHandler_iff.2 ⟨rfl, hselect⟩) (by simp [hruns])
  · exact hs.congr (commandEffect_handlerRegisters_of_ne_irq hi hirq s)

/-- The next poll finds Fast active and takes the countdown below 0, so it forces Slow. -/
theorem exec_wdpoll {start : Tick} {s : State} (hs : FreshlyEscalated start s)
    (hgie : s.gie = false) : ∃ t, exec .wdpoll s = .next t ∧ EscalationUndone start t := by
  have hneg : (decrementCountdown s.wdog).toInt < 0 := by
    have hcountdown := hs.countdown
    rw [decrementCountdown_toInt]
    omega
  exact ⟨_, exec_wdpoll_of_suppressed hgie (watchdogStep_of_forces hneg hs.fast),
    rfl, rfl, rfl, rfl, rfl, hs.awaits, hs.startsAt, hneg⟩

end FreshlyEscalated

theorem withoutCompareMatchRun_cons_iff {i : Instr} {is : List Instr} {s t : State}
    (hexec : exec i s = .next t) :
    withoutCompareMatchRun (i :: is) s = true ↔
      runsHandler .compareMatch i s = false ∧ withoutCompareMatchRun is t = true := by
  rw [withoutCompareMatchRun, hexec, Bool.and_eq_true, Bool.not_eq_true']

/-- Until `ISR_CMP` runs or a command polls, forces or resets, the escalation stands. -/
theorem FreshlyEscalated.runCommands {start : Tick} {is : List Instr} {s t : State}
    (hs : FreshlyEscalated start s) (his : ∀ i ∈ is, leavesWatchdogAndMode i = true)
    (hwithout : withoutCompareMatchRun is s = true) (hrun : runCommands is s = .next t) :
    FreshlyEscalated start t := by
  induction is generalizing s with
  | nil =>
    cases hrun
    exact hs
  | cons i rest ih =>
    obtain ⟨u, hexec, hrest⟩ := runCommands_cons_next_iff.1 hrun
    obtain ⟨hruns, hwithoutRest⟩ := (withoutCompareMatchRun_cons_iff hexec).1 hwithout
    obtain ⟨-, rfl⟩ := exec_next_iff.1 hexec
    rw [List.forall_mem_cons] at his
    obtain ⟨hfirst, hisRest⟩ := his
    exact ih (hs.commandEffect hfirst hruns) hisRest hwithoutRest hrest

theorem isEnvironment_iff {i : Instr} :
    isEnvironment i = true ↔ (∃ d, i = .tick d) ∨ i = .edge := by
  cases i <;> simp [isEnvironment]

/-- A command of the environment completes; it neither polls, nor touches the mode, nor runs a
handler. -/
theorem exec_of_environment {i : Instr} (hi : isEnvironment i = true) (s : State) :
    exec i s = .next (commandEffect i s) ∧ leavesWatchdogAndMode i = true ∧
      runsHandler .compareMatch i s = false := by
  obtain ⟨d, rfl⟩ | rfl := isEnvironment_iff.1 hi
  · exact ⟨rfl, rfl, rfl⟩
  · exact ⟨rfl, rfl, rfl⟩

/-- While only time and edges pass, the run completes and the escalation stands. -/
theorem FreshlyEscalated.runCommands_environment {start : Tick} {is : List Instr} {s : State}
    (hs : FreshlyEscalated start s) (his : ∀ i ∈ is, isEnvironment i = true) :
    ∃ t, Machine.runCommands is s = .next t ∧ FreshlyEscalated start t := by
  induction is generalizing s with
  | nil => exact ⟨s, rfl, hs⟩
  | cons i rest ih =>
    rw [List.forall_mem_cons] at his
    obtain ⟨hfirst, hisRest⟩ := his
    obtain ⟨hexec, hleaves, hruns⟩ := exec_of_environment hfirst s
    obtain ⟨t, hrun, ht⟩ := ih (hs.commandEffect hleaves hruns) hisRest
    exact ⟨t, runCommands_cons_next_iff.2 ⟨_, hexec, hrun⟩, ht⟩

/-- Settles O43: the escalation stands up to the poll, which undoes it. -/
theorem watchdogUndoesAFreshEscalation : Obligations.WatchdogUndoesAFreshEscalation := by
  unfold Obligations.WatchdogUndoesAFreshEscalation
  intro s hgie hedgf hie hawait hshort hwdog undone
  have hirq := exec_irq_of_escalation hgie hedgf hie hawait hshort
  have hescalated := FreshlyEscalated.escalate (s := { s with
    sPeriod := elapsedTicks (nowTick s) s.sStart, sStart := nowTick s, sRlog := .zero })
    hwdog (nowTick s)
  refine ⟨fun between henv => ?environment, fun between u hleaves hwithout hrun hsuppressed => ?any⟩
  case environment =>
    obtain ⟨u, hrun, hu⟩ := hescalated.runCommands_environment henv
    have hcli : exec .cli u = .next { u with gie := false } := exec_of_unguarded rfl u
    obtain ⟨t, hpoll, hundone⟩ := (hu.commandEffect (i := .cli) rfl rfl).exec_wdpoll rfl
    have htail := runCommands_concat (runCommands_concat hrun hcli) hpoll
    rw [List.append_assoc] at htail
    exact ⟨t, runCommands_cons_next_iff.2 ⟨_, hirq, htail⟩, hundone⟩
  case any =>
    obtain ⟨-, hwithoutRest⟩ := (withoutCompareMatchRun_cons_iff hirq).1 hwithout
    obtain ⟨v, hfirst, hrest⟩ := runCommands_cons_next_iff.1 hrun
    obtain rfl := Host.Outcome.next.inj (hirq.symm.trans hfirst)
    have hu := hescalated.runCommands hleaves hwithoutRest hrest
    exact ⟨hu.fast, hu.exec_wdpoll hsuppressed⟩

end Sys2Proof.Machine
end
